-- ==== Sys2Proof/Word.lean ====
section
/-! DEFINITION. The smallest unit of the hardware's data: the byte (spec/20_memory.md R50, "A byte is 8 bits";
spec/00_scope.md R7: bit 0 is the least significant bit, which is also `BitVec`'s numbering). -/

namespace Sys2Proof

/-- A byte of a block, of a buffer, or of a pixel channel (R7, R13, R50). -/
abbrev Byte := BitVec 8

end Sys2Proof
end

