-- ==== Sys2Proof/Syntax.lean ====
section
/-! DEFINITION. The data the instructions are made of and the ONE inductive of instructions. The core executes no
instruction stream (R1, R80): what stands in the place of an instruction word is the compressed block, so a
constructor carries the fields of a block, named as spec/10_state.md R26 and spec/30_encoding.md R83 to R89 name
them. Two constructors are the core operations (R230, R231), six the block bodies, three the units inside them. -/

namespace Sys2Proof

/-- Eight bytes of a block, byte 0 at the lowest address (R7, R60): `B0..B7` of a color block, `A0..A7` of an
alpha block. -/
structure Block where
  b0 : Byte
  b1 : Byte
  b2 : Byte
  b3 : Byte
  b4 : Byte
  b5 : Byte
  b6 : Byte
  b7 : Byte
  deriving DecidableEq, Repr, Inhabited

/-- A color: one 8-bit value per channel, each 0..255 (R13, R26). -/
structure Color where
  r : Byte
  g : Byte
  b : Byte
  deriving DecidableEq, Repr, Inhabited

/-- One entry of the result register file: four 8-bit channels (R13, R23). -/
structure Pixel where
  r : Byte
  g : Byte
  b : Byte
  a : Byte
  deriving DecidableEq, Repr, Inhabited

/-- The mode tag's five values (R25). -/
inductive Mode where
  | individual
  | differential
  | t
  | h
  | planar
  deriving DecidableEq, Repr, Inhabited

/-- The 2-bit index table, entry `k = column*4 + row` (R27, R151). -/
abbrev Idx2Table := Vector (BitVec 2) 16

/-- The 3-bit index table, in the same addressing (R28, R153). -/
abbrev Idx3Table := Vector (BitVec 3) 16

/-- The fields of format I, bytes 0 to 3 (R26, R83, R170, R174). -/
structure IndividualFields where
  c1R : BitVec 4
  c1G : BitVec 4
  c1B : BitVec 4
  c2R : BitVec 4
  c2G : BitVec 4
  c2B : BitVec 4
  tbl1 : BitVec 3
  tbl2 : BitVec 3
  flip : BitVec 1
  deriving DecidableEq, Repr, Inhabited

/-- The fields of format D, bytes 0 to 3; the deltas are held as the 3-bit patterns of the block (R26, R84, R171). -/
structure DifferentialFields where
  bR : BitVec 5
  bG : BitVec 5
  bB : BitVec 5
  dR : BitVec 3
  dG : BitVec 3
  dB : BitVec 3
  tbl1 : BitVec 3
  tbl2 : BitVec 3
  flip : BitVec 1
  deriving DecidableEq, Repr, Inhabited

/-- The fields of format T, bytes 0 to 3 (R26, R85, R190, R191). The four "class." bits of `B0` are no field:
R93 says they are fully determined by `c1R`. -/
structure TFields where
  c1R : BitVec 4
  c1G : BitVec 4
  c1B : BitVec 4
  c2R : BitVec 4
  c2G : BitVec 4
  c2B : BitVec 4
  da : BitVec 2
  db : BitVec 1
  deriving DecidableEq, Repr, Inhabited

/-- The fields of format H, bytes 0 to 3 (R26, R86, R196, R197). `cls0` is `B0[7]`, the one "class." bit that the
other fields do not always determine (R93); no body reads it. -/
structure HFields where
  cls0 : BitVec 1
  c1R : BitVec 4
  c1G : BitVec 4
  c1B : BitVec 4
  c2R : BitVec 4
  c2G : BitVec 4
  c2B : BitVec 4
  da : BitVec 1
  db : BitVec 1
  deriving DecidableEq, Repr, Inhabited

/-- The fields of format P, all eight bytes (R26, R87, R210). `cls0` and `cls1` are `B0[7]` and `B1[7]`, the two
"class." bits that the other fields do not always determine (R93); the body does not read them. -/
structure PlanarFields where
  cls0 : BitVec 1
  cls1 : BitVec 1
  oR : BitVec 6
  oG : BitVec 7
  oB : BitVec 6
  hR : BitVec 6
  hG : BitVec 7
  hB : BitVec 6
  vR : BitVec 6
  vG : BitVec 7
  vB : BitVec 6
  deriving DecidableEq, Repr, Inhabited

/-- The header fields of the alpha format A (R89, R220). -/
structure AlphaFields where
  base : BitVec 8
  mult : BitVec 4
  atbl : BitVec 4
  deriving DecidableEq, Repr, Inhabited

/-- The payload of a mode: each variant carries its own fields and no two overlap in meaning (R26). -/
inductive Payload where
  | individual (f : IndividualFields)
  | differential (f : DifferentialFields)
  | t (f : TFields)
  | h (f : HFields)
  | planar (f : PlanarFields)
  deriving DecidableEq, Repr, Inhabited

/-- Which unit the bytes of a request are presented to. Nothing in the bytes says it (R80): the variant comes from
the request bit `OP` (R21), an alpha block is known by its position, and the three inner units are selected by no
bit pattern (spec/opcode_table.json). -/
inductive Select where
  /-- the core with `OP = 0` (R230) -/
  | decrgb
  /-- the core with `OP = 1` (R231) -/
  | decrgba
  /-- a color body, chosen by the block's own bits (R81) -/
  | color
  /-- the alpha decoder (R222) -/
  | alpha
  /-- the mode classifier (R162) -/
  | classify
  /-- the 2-bit index extractor (R150) -/
  | idx2
  /-- the 3-bit index extractor (R152) -/
  | idx3
  deriving DecidableEq, Repr, Inhabited

/-- A request presented at the core's input side: where it goes and its operand bytes, lowest offset first (R21). -/
structure Request where
  sel : Select
  bytes : List Byte
  deriving DecidableEq, Repr, Inhabited

/-- The instructions: one constructor per row of spec/opcode_table.json. -/
inductive Instr where
  /-- `ETC2.I`, the Individual body (R172) -/
  | etc2I (f : IndividualFields) (idx : Idx2Table)
  /-- `ETC2.T`, the T body (R192) -/
  | etc2T (f : TFields) (idx : Idx2Table)
  /-- `ETC2.H`, the H body (R198) -/
  | etc2H (f : HFields) (idx : Idx2Table)
  /-- `ETC2.P`, the Planar body (R212); a Planar block has no index area (R87) -/
  | etc2P (f : PlanarFields)
  /-- `ETC2.D`, the Differential body (R173) -/
  | etc2D (f : DifferentialFields) (idx : Idx2Table)
  /-- `EAC.A8`, the alpha decoder (R222) -/
  | eacA8 (f : AlphaFields) (idx : Idx3Table)
  /-- `DECRGB cb` (R230) -/
  | decrgb (cb : Block)
  /-- `DECRGBA ab, cb` (R231) -/
  | decrgba (ab : Block) (cb : Block)
  /-- `CLASSIFY`: bytes `B0..B3` of a color block (R162) -/
  | classify (b0 : Byte) (b1 : Byte) (b2 : Byte) (b3 : Byte)
  /-- `IDX2`: bytes `B4..B7` of a color block (R150) -/
  | idx2 (b4 : Byte) (b5 : Byte) (b6 : Byte) (b7 : Byte)
  /-- `IDX3`: bytes `A2..A7` of an alpha block (R152) -/
  | idx3 (a2 : Byte) (a3 : Byte) (a4 : Byte) (a5 : Byte) (a6 : Byte) (a7 : Byte)
  deriving DecidableEq, Repr, Inhabited

end Sys2Proof
end

