-- ==== Sys2Proof/Config.lean ====
section
/-! DEFINITION. What an implementation fixes (the parameters of spec/00_scope.md R6) and the free values of the
reset state. The default contents of the tables are in Sys2Proof/Machine/Tables.lean. -/

namespace Sys2Proof

/-- The parameters of R6. `P_NCORES` is not here: it is the number of core instances that `State` holds. -/
structure Params where
  /-- rows 1 to 7 of `P_IMOD`, entry `t-1` for row `t`. Row 0 is fixed by the source (R6, R121), so it is no
  parameter. -/
  imodRows : Vector (Vector Int 4) 7
  /-- `P_AMOD`, 16 rows of 8 (R6, R122) -/
  amodRows : Vector (Vector Int 8) 16
  /-- `P_LEGACY_NONFLIP_BASE1` (R6, R176) -/
  legacyNonflipBase1 : Bool
  /-- `P_ADDR_W`, `none` for unbounded (R6, R241) -/
  addrW : Option Nat
  /-- `P_LATENCY`, `none` for unspecified; no rule depends on it (R6, R283) -/
  latency : Option Nat
  deriving DecidableEq, Repr, Inhabited

/- The values of the core's registers right after reset. R36 calls them unspecified and adds that a model must not
give `PX` or any working value a default such as zero; so each register holds a value (one for every run) of which
nothing can be proved. Notes/assumptions/1.md. -/

/-- DESIGN CHOICE (log 1): the value after reset of a register of `w` bits; `n` tells registers apart (R36). -/
opaque Config.resetBits (w n : Nat) : BitVec w

/-- DESIGN CHOICE (log 1): the value after reset of `CB` (0) and `AB` (1) (R36). -/
opaque Config.resetBlock (n : Nat) : Block

/-- DESIGN CHOICE (log 1): the value after reset of `MODE` (R36). -/
opaque Config.resetMode : Mode

/-- DESIGN CHOICE (log 1): the value after reset of the payload fields (R36). -/
opaque Config.resetPayload : Payload

/-- DESIGN CHOICE (log 1): the value after reset of the sums `r`, `g`, `b` (R36). -/
opaque Config.resetInt (n : Nat) : Int

/-- DESIGN CHOICE (log 1): the value after reset of the magnitude `d` (R36). -/
opaque Config.resetNat (n : Nat) : Nat

/-- DESIGN CHOICE (log 1): the value after reset of the derived colors (R36). -/
opaque Config.resetColor (n : Nat) : Color

/-- DESIGN CHOICE (log 1): the value after reset of the entries of `PX` (R36). -/
opaque Config.resetPixel (k : Nat) : Pixel

/-- DESIGN CHOICE (log 1): the value after reset of the alpha header fields (R36). -/
opaque Config.resetAlpha : AlphaFields

end Sys2Proof
end

