-- ==== Sys2Proof/Machine/Tables.lean ====
section
/-! DEFINITION. The constant tables of spec/40_tables_and_helpers.md: `DIST`, `IMOD`, `AMOD`, and the default
parameters of R6. No operation writes a table (R123). -/

namespace Sys2Proof

/-- `DIST`, the distance table (R120). -/
def distTable : Vector Nat 8 := #v[3, 6, 11, 16, 23, 32, 41, 64]

/-- `DIST[n]`; every 3-bit index is valid (R120). -/
def dist (n : BitVec 3) : Nat := distTable[n.toNat]'(n.isLt)

/-- Row 0 of `IMOD`, the only row the source gives (R121). -/
def imodRow0 : Vector Int 4 := #v[2, 8, -2, -8]

/-- The default of rows 1 to 7 of `P_IMOD`: the spec's own supply, marked there as general knowledge (R121, GK1). -/
def imodDefault : Vector (Vector Int 4) 7 :=
  #v[#v[5, 17, -5, -17], #v[9, 29, -9, -29], #v[13, 42, -13, -42], #v[18, 60, -18, -60],
     #v[24, 80, -24, -80], #v[33, 106, -33, -106], #v[47, 183, -47, -183]]

/-- The default of `P_AMOD`: the spec's own supply, marked there as general knowledge (R122, GK2). -/
def amodDefault : Vector (Vector Int 8) 16 :=
  #v[#v[-3, -6, -9, -15, 2, 5, 8, 14], #v[-3, -7, -10, -13, 2, 6, 9, 12],
     #v[-2, -5, -8, -13, 1, 4, 7, 12], #v[-2, -4, -6, -13, 1, 3, 5, 12],
     #v[-3, -6, -8, -12, 2, 5, 7, 11], #v[-3, -7, -9, -11, 2, 6, 8, 10],
     #v[-4, -7, -8, -11, 3, 6, 7, 10], #v[-3, -5, -8, -11, 2, 4, 7, 10],
     #v[-2, -6, -8, -10, 1, 5, 7, 9], #v[-2, -5, -8, -10, 1, 4, 7, 9],
     #v[-2, -4, -8, -10, 1, 3, 7, 9], #v[-2, -5, -7, -10, 1, 4, 6, 9],
     #v[-3, -4, -7, -10, 2, 3, 6, 9], #v[-1, -2, -3, -10, 0, 1, 2, 9],
     #v[-4, -6, -8, -9, 3, 5, 7, 8], #v[-3, -5, -7, -9, 2, 4, 6, 8]]

/-- The parameters at their defaults (R6). -/
def defaultParams : Params where
  imodRows := imodDefault
  amodRows := amodDefault
  legacyNonflipBase1 := false
  addrW := none
  latency := none

/-- Row `t` of `IMOD`: the source's row 0, or row `t` of `P_IMOD` (R121). -/
def imodRow (p : Params) (t : BitVec 3) : Vector Int 4 :=
  if t = 0 then imodRow0 else p.imodRows[t.toNat - 1]'(by have := t.isLt; omega)

/-- `IMOD[t][x]`; the column is the pixel index itself (R121). -/
def imod (p : Params) (t : BitVec 3) (x : BitVec 2) : Int := (imodRow p t)[x.toNat]'(x.isLt)

/-- `AMOD[t][x]`; the column is the pixel index itself (R122). -/
def amod (p : Params) (t : BitVec 4) (x : BitVec 3) : Int :=
  (p.amodRows[t.toNat]'(t.isLt))[x.toNat]'(x.isLt)

end Sys2Proof
end

