-- ==== Sys2Proof/Machine/Operands.lean ====
section
/-! DEFINITION. Every operand form: sign extension, the four bit-extension helpers, the clamp
(spec/40_tables_and_helpers.md), and the two index extractors (spec/41_index_extractors.md). -/

namespace Sys2Proof

/-- `sext_3(v)` (R10, R130): the only signed field of any block is the 3-bit delta. -/
def sext3 (v : BitVec 3) : Int := if 4 ≤ v.toNat then (v.toNat : Int) - 8 else (v.toNat : Int)

/-- `extend4(x) = (x << 4) | x` (R124). -/
def extend4 (x : BitVec 4) : Byte := (x.setWidth 8 <<< 4) ||| x.setWidth 8

/-- `extend5(x) = (x << 3) | (x >> 2)` (R125). -/
def extend5 (x : BitVec 5) : Byte := (x.setWidth 8 <<< 3) ||| (x.setWidth 8 >>> 2)

/-- `extend6(x) = (x << 2) | (x >> 4)` (R126). -/
def extend6 (x : BitVec 6) : Byte := (x.setWidth 8 <<< 2) ||| (x.setWidth 8 >>> 4)

/-- `extend7(x) = (x << 1) | (x >> 6)` (R127). -/
def extend7 (x : BitVec 7) : Byte := (x.setWidth 8 <<< 1) ||| (x.setWidth 8 >>> 6)

/-- `clamp(v, lo, hi)`: saturation to the nearer bound (R129). -/
def clamp (v lo hi : Int) : Int := if v < lo then lo else if hi < v then hi else v

/-- `clamp(v, 0, 255)` as the 8-bit channel it is stored in; nothing is truncated before the clamp (R129). -/
def clampByte (v : Int) : Byte := BitVec.ofInt 8 (clamp v 0 255)

/-- A channel read as a non-negative integer: `zext_8` (R10). -/
def channel (b : Byte) : Int := (b.toNat : Int)

/-- The same signed amount added to the three channels, each clamped on its own (R176, R192, R198). -/
def Color.shift (c : Color) (m : Int) : Color where
  r := clampByte (channel c.r + m)
  g := clampByte (channel c.g + m)
  b := clampByte (channel c.b + m)

/-- A color as a pixel with the given alpha (R13). -/
def Color.withAlpha (c : Color) (a : Byte) : Pixel := ⟨c.r, c.g, c.b, a⟩

/-- The pixel's three color channels (R13). -/
def Pixel.color (p : Pixel) : Color := ⟨p.r, p.g, p.b⟩

/-- The color of three 4-bit fields, each bit-replicated (R124). -/
def color4 (r g b : BitVec 4) : Color := ⟨extend4 r, extend4 g, extend4 b⟩

/-- The color of three 5-bit fields, each bit-replicated (R125). -/
def color5 (r g b : BitVec 5) : Color := ⟨extend5 r, extend5 g, extend5 b⟩

/-- The color of a 6-, a 7- and a 6-bit field, each bit-replicated (R211). -/
def color676 (r : BitVec 6) (g : BitVec 7) (b : BitVec 6) : Color := ⟨extend6 r, extend7 g, extend6 b⟩

/-- One 2-bit index from its high and its low bit (R150). -/
def index2 (msb lsb : Bool) : BitVec 2 := BitVec.ofBool msb ++ BitVec.ofBool lsb

/-- `IDX2`: pixel `k` takes its high bit from `B5` (`k < 8`) or `B4`, its low bit from the same place of `B7` or
`B6` (R88, R150). -/
def extractIdx2 (b4 b5 b6 b7 : Byte) : Idx2Table :=
  Vector.ofFn fun k : Fin 16 =>
    if k.val < 8 then index2 (b5.getLsbD k.val) (b7.getLsbD k.val)
    else index2 (b4.getLsbD (k.val - 8)) (b6.getLsbD (k.val - 8))

/-- `IDX3`: each group of three bytes is one 24-bit number, the lower-numbered byte on top; index `m` of a group is
bits `23-3m : 21-3m` (R89, R152). -/
def extractIdx3 (a2 a3 a4 a5 a6 a7 : Byte) : Idx3Table :=
  Vector.ofFn fun k : Fin 16 =>
    if k.val < 8 then (a2 ++ a3 ++ a4 : BitVec 24).extractLsb' (21 - 3 * k.val) 3
    else (a5 ++ a6 ++ a7 : BitVec 24).extractLsb' (21 - 3 * (k.val - 8)) 3

end Sys2Proof
end

