-- ==== Sys2Proof/Machine/Flags.lean ====
section
/-! DEFINITION. The conditions that steer a decode. The hardware has no flag that lasts (R31): the diff bit, the
three overflow tests, the mode (the only condition-code-like value, R25) and the H-mode ordering bit are all
recomputed from the block in every transaction. -/

namespace Sys2Proof

/-- The three sums `r`, `g`, `b` of R160, without wrap-around. -/
structure Sums where
  r : Int
  g : Int
  b : Int
  deriving DecidableEq, Repr, Inhabited

/-- A 5-bit base plus a signed 3-bit delta, over the integers (R160). -/
def deltaSum (base : BitVec 5) (delta : BitVec 3) : Int := (base.toNat : Int) + sext3 delta

/-- The sum of one byte: `b[7:3] + sext_3(b[2:0])` (R160). -/
def byteSum (b : Byte) : Int := deltaSum (b.extractLsb 7 3) (b.extractLsb 2 0)

/-- A sum overflows when it is outside 0..31, bounds inclusive (R161). -/
def overflows (s : Int) : Bool := decide (s < 0) || decide (31 < s)

/-- `ovf(b)` (R81, R161). -/
def ovf (b : Byte) : Bool := overflows (byteSum b)

/-- The diff bit `B3[1]` (R81). -/
def diffBit (b3 : Byte) : Bool := b3.getLsbD 1

/-- The three sums of a color block (R160). -/
def sumsOf (b0 b1 b2 : Byte) : Sums := ⟨byteSum b0, byteSum b1, byteSum b2⟩

/-- `CLASSIFY`'s decision, tested in this exact order (R81, R162). -/
def classifyMode (b0 b1 b2 b3 : Byte) : Mode :=
  if diffBit b3 = false then .individual
  else if ovf b0 then .t
  else if ovf b1 then .h
  else if ovf b2 then .planar
  else .differential

/-- A color packed into one 24-bit integer, red most significant (R197). -/
def packColor (c : Color) : Nat := c.r.toNat * 65536 + c.g.toNat * 256 + c.b.toNat

/-- The H-mode ordering bit: 1 when `p1 >= p2`, unsigned (R197). -/
def orderBit (base1 base2 : Color) : BitVec 1 := if packColor base2 ≤ packColor base1 then 1 else 0

/-- Which subblock the pixel at column `i`, row `j` lies in: `true` for subblock 2 (R175). -/
def inSecondSubblock (flip : BitVec 1) (i j : Nat) : Bool :=
  if flip = 0 then decide (1 < i) else decide (1 < j)

end Sys2Proof
end

