-- ==== Sys2Proof/WellFormed.lean ====
section
/-! DEFINITION. Which instructions have an encoding. Every 64-bit value is a legal block (R92); the other way round
a set of fields is a block of a format only if the classifier would give that format to it (R93, R94): formats D, H
and P ask that the bytes tested before their own test do not overflow. Formats I, T and A, and all the other rows,
take every field value. -/

namespace Sys2Proof

/-- Format D: no sum leaves 0..31 (R84, R94). -/
def DifferentialFields.wf (f : DifferentialFields) : Bool :=
  !overflows (deltaSum f.bR f.dR) && !overflows (deltaSum f.bG f.dG) && !overflows (deltaSum f.bB f.dB)

/-- Format H: `B0 = cls0 ‖ c1R ‖ c1G[3:1]` does not overflow (R86, R93). -/
def HFields.wf (f : HFields) : Bool :=
  !overflows (deltaSum (f.cls0 ++ f.c1R) (f.c1G.extractLsb 3 1))

/-- Format P: neither `B0 = cls0 ‖ oR ‖ oG[6]` nor `B1 = cls1 ‖ oG[5:0] ‖ oB[5]` overflows (R87, R93). -/
def PlanarFields.wf (f : PlanarFields) : Bool :=
  !overflows (deltaSum (f.cls0 ++ f.oR.extractLsb 5 2) (f.oR.extractLsb 1 0 ++ f.oG.extractLsb 6 6)) &&
  !overflows (deltaSum (f.cls1 ++ f.oG.extractLsb 5 2) (f.oG.extractLsb 1 0 ++ f.oB.extractLsb 5 5))

/-- The instruction has an encoding (R92, R93, R94). -/
def Instr.wf : Instr → Bool
  | .etc2I _ _ => true
  | .etc2T _ _ => true
  | .etc2H f _ => f.wf
  | .etc2P f => f.wf
  | .etc2D f _ => f.wf
  | .eacA8 _ _ => true
  | .decrgb _ => true
  | .decrgba _ _ => true
  | .classify _ _ _ _ => true
  | .idx2 _ _ _ _ => true
  | .idx3 _ _ _ _ _ _ => true

end Sys2Proof
end

