-- ==== Sys2Proof/Decode.lean ====
section
/-! DEFINITION. The decoder, total on any bytes, and after it the encoder, both from the encoding tables of
spec/30_encoding.md (R83 to R89). Nothing in the bytes says how long a unit is or which unit reads it (R80), so the
decoder is given the `Select` of the request beside its bytes. -/

namespace Sys2Proof

/-- Why a request is no instruction. There is no illegal encoding (R92); the one thing that can be wrong is the
number of bytes ("There is no other length", R80). -/
inductive DecodeError where
  | wrongLength (sel : Select) (got : Nat)
  deriving DecidableEq, Repr, Inhabited

/-- How many bytes each unit takes (R80; spec/opcode_table.json for the inner units). -/
def Select.byteLength : Select → Nat
  | .decrgb => 8
  | .decrgba => 16
  | .color => 8
  | .alpha => 8
  | .classify => 4
  | .idx2 => 4
  | .idx3 => 6

/-- The unit that `OP` selects (R21). -/
def selectOfOp (op : BitVec 1) : Select := if op = 0 then .decrgb else .decrgba

/-! ### Fields out of a block -/

/-- Format I (R83). -/
def individualFields (b : Block) : IndividualFields where
  c1R := b.b0.extractLsb 7 4
  c1G := b.b1.extractLsb 7 4
  c1B := b.b2.extractLsb 7 4
  c2R := b.b0.extractLsb 3 0
  c2G := b.b1.extractLsb 3 0
  c2B := b.b2.extractLsb 3 0
  tbl1 := b.b3.extractLsb 7 5
  tbl2 := b.b3.extractLsb 4 2
  flip := b.b3.extractLsb 0 0

/-- Format D (R84). -/
def differentialFields (b : Block) : DifferentialFields where
  bR := b.b0.extractLsb 7 3
  bG := b.b1.extractLsb 7 3
  bB := b.b2.extractLsb 7 3
  dR := b.b0.extractLsb 2 0
  dG := b.b1.extractLsb 2 0
  dB := b.b2.extractLsb 2 0
  tbl1 := b.b3.extractLsb 7 5
  tbl2 := b.b3.extractLsb 4 2
  flip := b.b3.extractLsb 0 0

/-- Format T (R85, R190, R191). -/
def tFields (b : Block) : TFields where
  c1R := b.b0.extractLsb 4 3 ++ b.b0.extractLsb 1 0
  c1G := b.b1.extractLsb 7 4
  c1B := b.b1.extractLsb 3 0
  c2R := b.b2.extractLsb 7 4
  c2G := b.b2.extractLsb 3 0
  c2B := b.b3.extractLsb 7 4
  da := b.b3.extractLsb 3 2
  db := b.b3.extractLsb 0 0

/-- Format H (R86, R196, R197). -/
def hFields (b : Block) : HFields where
  cls0 := b.b0.extractLsb 7 7
  c1R := b.b0.extractLsb 6 3
  c1G := b.b0.extractLsb 2 0 ++ b.b1.extractLsb 4 4
  c1B := b.b1.extractLsb 3 3 ++ b.b1.extractLsb 1 0 ++ b.b2.extractLsb 7 7
  c2R := b.b2.extractLsb 6 3
  c2G := b.b2.extractLsb 2 0 ++ b.b3.extractLsb 7 7
  c2B := b.b3.extractLsb 6 3
  da := b.b3.extractLsb 2 2
  db := b.b3.extractLsb 0 0

/-- Format P (R87, R210). -/
def planarFields (b : Block) : PlanarFields where
  cls0 := b.b0.extractLsb 7 7
  cls1 := b.b1.extractLsb 7 7
  oR := b.b0.extractLsb 6 1
  oG := b.b0.extractLsb 0 0 ++ b.b1.extractLsb 6 1
  oB := b.b1.extractLsb 0 0 ++ b.b2.extractLsb 4 3 ++ b.b2.extractLsb 1 0 ++ b.b3.extractLsb 7 7
  hR := b.b3.extractLsb 6 2 ++ b.b3.extractLsb 0 0
  hG := b.b4.extractLsb 7 1
  hB := b.b4.extractLsb 0 0 ++ b.b5.extractLsb 7 3
  vR := b.b5.extractLsb 2 0 ++ b.b6.extractLsb 7 5
  vG := b.b6.extractLsb 4 0 ++ b.b7.extractLsb 7 6
  vB := b.b7.extractLsb 5 0

/-- The header of format A (R89, R220). -/
def alphaFields (a : Block) : AlphaFields where
  base := a.b0
  mult := a.b1.extractLsb 7 4
  atbl := a.b1.extractLsb 3 0

/-- The 2-bit index area of formats I, D, T and H: bytes 4 to 7 (R88). -/
def blockIdx2 (b : Block) : Idx2Table := extractIdx2 b.b4 b.b5 b.b6 b.b7

/-- The 3-bit index area of format A: bytes 2 to 7 (R89). -/
def blockIdx3 (a : Block) : Idx3Table := extractIdx3 a.b2 a.b3 a.b4 a.b5 a.b6 a.b7

/-- The mode of a color block (R81, R162). -/
def blockMode (b : Block) : Mode := classifyMode b.b0 b.b1 b.b2 b.b3

/-! ### The decoder -/

/-- The color body that a color block selects by its own bits (R81, R91); every block selects one (R92). -/
def decodeColor (b : Block) : Instr :=
  match blockMode b with
  | .individual => .etc2I (individualFields b) (blockIdx2 b)
  | .t => .etc2T (tFields b) (blockIdx2 b)
  | .h => .etc2H (hFields b) (blockIdx2 b)
  | .planar => .etc2P (planarFields b)
  | .differential => .etc2D (differentialFields b) (blockIdx2 b)

/-- Every 64-bit value is an alpha block (R89, R92). -/
def decodeAlpha (a : Block) : Instr := .eacA8 (alphaFields a) (blockIdx3 a)

/-- The decoder: exactly as many bytes as the selected unit takes (R80), lowest offset first. In a 16-byte unit the
alpha block comes first (R52). -/
def decode (sel : Select) (bytes : List Byte) : Except DecodeError Instr :=
  match sel with
  | .decrgb =>
    match bytes with
    | [b0, b1, b2, b3, b4, b5, b6, b7] => .ok (.decrgb ⟨b0, b1, b2, b3, b4, b5, b6, b7⟩)
    | _ => .error (.wrongLength .decrgb bytes.length)
  | .decrgba =>
    match bytes with
    | [a0, a1, a2, a3, a4, a5, a6, a7, b0, b1, b2, b3, b4, b5, b6, b7] =>
      .ok (.decrgba ⟨a0, a1, a2, a3, a4, a5, a6, a7⟩ ⟨b0, b1, b2, b3, b4, b5, b6, b7⟩)
    | _ => .error (.wrongLength .decrgba bytes.length)
  | .color =>
    match bytes with
    | [b0, b1, b2, b3, b4, b5, b6, b7] => .ok (decodeColor ⟨b0, b1, b2, b3, b4, b5, b6, b7⟩)
    | _ => .error (.wrongLength .color bytes.length)
  | .alpha =>
    match bytes with
    | [a0, a1, a2, a3, a4, a5, a6, a7] => .ok (decodeAlpha ⟨a0, a1, a2, a3, a4, a5, a6, a7⟩)
    | _ => .error (.wrongLength .alpha bytes.length)
  | .classify =>
    match bytes with
    | [b0, b1, b2, b3] => .ok (.classify b0 b1 b2 b3)
    | _ => .error (.wrongLength .classify bytes.length)
  | .idx2 =>
    match bytes with
    | [b4, b5, b6, b7] => .ok (.idx2 b4 b5 b6 b7)
    | _ => .error (.wrongLength .idx2 bytes.length)
  | .idx3 =>
    match bytes with
    | [a2, a3, a4, a5, a6, a7] => .ok (.idx3 a2 a3 a4 a5 a6 a7)
    | _ => .error (.wrongLength .idx3 bytes.length)

/-! ### The encoder -/

/-- The one byte of `OVF` with `b[4:3] = a` and `b[1:0] = c` (R82). -/
def forceOvf (a c : BitVec 2) : Byte :=
  if 4 ≤ a.toNat + c.toNat then (7 : BitVec 3) ++ a ++ (0 : BitVec 1) ++ c
  else (0 : BitVec 3) ++ a ++ (1 : BitVec 1) ++ c

/-- Eight bits as a byte, bit `n` given by `f n` (R7). -/
def gatherByte (f : Nat → Bool) : Byte :=
  BitVec.ofBool (f 7) ++ BitVec.ofBool (f 6) ++ BitVec.ofBool (f 5) ++ BitVec.ofBool (f 4) ++
  BitVec.ofBool (f 3) ++ BitVec.ofBool (f 2) ++ BitVec.ofBool (f 1) ++ BitVec.ofBool (f 0)

/-- Bit `n` of the index of pixel `k` (R88). -/
def idx2Bit (v : Idx2Table) (n k : Nat) : Bool := (v.toList.getD k 0).getLsbD n

/-- The 2-bit index area `B4, B5, B6, B7` of an index table (R88). -/
def packIdx2 (v : Idx2Table) : List Byte :=
  [gatherByte fun n => idx2Bit v 1 (8 + n), gatherByte fun n => idx2Bit v 1 n,
   gatherByte fun n => idx2Bit v 0 (8 + n), gatherByte fun n => idx2Bit v 0 n]

/-- Eight 3-bit indices as one 24-bit group, the first on top (R89). -/
def packGroup (v : Idx3Table) (k : Nat) : BitVec 24 :=
  v.toList.getD k 0 ++ v.toList.getD (k + 1) 0 ++ v.toList.getD (k + 2) 0 ++ v.toList.getD (k + 3) 0 ++
  v.toList.getD (k + 4) 0 ++ v.toList.getD (k + 5) 0 ++ v.toList.getD (k + 6) 0 ++ v.toList.getD (k + 7) 0

/-- The three bytes of a 24-bit group, most significant first (R89). -/
def groupBytes (g : BitVec 24) : List Byte := [g.extractLsb 23 16, g.extractLsb 15 8, g.extractLsb 7 0]

/-- The 3-bit index area `A2..A7` of an index table (R89). -/
def packIdx3 (v : Idx3Table) : List Byte := groupBytes (packGroup v 0) ++ groupBytes (packGroup v 8)

/-- Bytes 0 to 3 of format I (R83). -/
def encodeIndividual (f : IndividualFields) : List Byte :=
  [f.c1R ++ f.c2R, f.c1G ++ f.c2G, f.c1B ++ f.c2B, f.tbl1 ++ f.tbl2 ++ (0 : BitVec 1) ++ f.flip]

/-- Bytes 0 to 3 of format D (R84). -/
def encodeDifferential (f : DifferentialFields) : List Byte :=
  [f.bR ++ f.dR, f.bG ++ f.dG, f.bB ++ f.dB, f.tbl1 ++ f.tbl2 ++ (1 : BitVec 1) ++ f.flip]

/-- Bytes 0 to 3 of format T; `B0` is the overflow byte that carries `c1R` (R85, R93). -/
def encodeT (f : TFields) : List Byte :=
  [forceOvf (f.c1R.extractLsb 3 2) (f.c1R.extractLsb 1 0), f.c1G ++ f.c1B, f.c2R ++ f.c2G,
   f.c2B ++ f.da ++ (1 : BitVec 1) ++ f.db]

/-- Bytes 0 to 3 of format H; `B1` is the overflow byte that carries `c1G[0]` and `c1B[3:1]` (R86, R93). -/
def encodeH (f : HFields) : List Byte :=
  [f.cls0 ++ f.c1R ++ f.c1G.extractLsb 3 1,
   forceOvf (f.c1G.extractLsb 0 0 ++ f.c1B.extractLsb 3 3) (f.c1B.extractLsb 2 1),
   f.c1B.extractLsb 0 0 ++ f.c2R ++ f.c2G.extractLsb 3 1,
   f.c2G.extractLsb 0 0 ++ f.c2B ++ f.da ++ (1 : BitVec 1) ++ f.db]

/-- The eight bytes of format P; `B2` is the overflow byte that carries `oB[4:1]` (R87, R93). -/
def encodePlanar (f : PlanarFields) : List Byte :=
  [f.cls0 ++ f.oR ++ f.oG.extractLsb 6 6,
   f.cls1 ++ f.oG.extractLsb 5 0 ++ f.oB.extractLsb 5 5,
   forceOvf (f.oB.extractLsb 4 3) (f.oB.extractLsb 2 1),
   f.oB.extractLsb 0 0 ++ f.hR.extractLsb 5 1 ++ (1 : BitVec 1) ++ f.hR.extractLsb 0 0,
   f.hG ++ f.hB.extractLsb 5 5,
   f.hB.extractLsb 4 0 ++ f.vR.extractLsb 5 3,
   f.vR.extractLsb 2 0 ++ f.vG.extractLsb 6 2,
   f.vG.extractLsb 1 0 ++ f.vB]

/-- Bytes 0 and 1 of format A (R89). -/
def encodeAlpha (f : AlphaFields) : List Byte := [f.base, f.mult ++ f.atbl]

/-- The bytes of a block, lowest offset first (R60). -/
def Block.toBytes (b : Block) : List Byte := [b.b0, b.b1, b.b2, b.b3, b.b4, b.b5, b.b6, b.b7]

/-- The unit an instruction's bytes are presented to. -/
def Instr.select : Instr → Select
  | .etc2I _ _ => .color
  | .etc2T _ _ => .color
  | .etc2H _ _ => .color
  | .etc2P _ => .color
  | .etc2D _ _ => .color
  | .eacA8 _ _ => .alpha
  | .decrgb _ => .decrgb
  | .decrgba _ _ => .decrgba
  | .classify _ _ _ _ => .classify
  | .idx2 _ _ _ _ => .idx2
  | .idx3 _ _ _ _ _ _ => .idx3

/-- The bytes of a well-formed instruction, lowest offset first (R83 to R89, R52). -/
def encode : Instr → List Byte
  | .etc2I f idx => encodeIndividual f ++ packIdx2 idx
  | .etc2T f idx => encodeT f ++ packIdx2 idx
  | .etc2H f idx => encodeH f ++ packIdx2 idx
  | .etc2P f => encodePlanar f
  | .etc2D f idx => encodeDifferential f ++ packIdx2 idx
  | .eacA8 f idx => encodeAlpha f ++ packIdx3 idx
  | .decrgb cb => cb.toBytes
  | .decrgba ab cb => ab.toBytes ++ cb.toBytes
  | .classify b0 b1 b2 b3 => [b0, b1, b2, b3]
  | .idx2 b4 b5 b6 b7 => [b4, b5, b6, b7]
  | .idx3 a2 a3 a4 a5 a6 a7 => [a2, a3, a4, a5, a6, a7]

/-! ### Words of the opcode table -/

/-- The `n` bytes of a number, most significant first: `W = B0 ‖ B1 ‖ ...` (R8). -/
def bytesOfNat : Nat → Nat → List Byte
  | 0, _ => []
  | n + 1, w => BitVec.ofNat 8 (w / 256 ^ n) :: bytesOfNat n w

/-- The request that an opcode-table row of `nbits` bits stands for (log 3). The widths tell the rows apart as far
as the table lets them: 32 bits are `IDX2`'s `W[31:0]`, 48 are `IDX3`'s `WA[47:0]`, 64 are a color block's `W`, 65
are `OP = 0` above `CB`, 129 are `OP = 1` above `AB` above `CB`. An alpha block and `CLASSIFY`'s four bytes have
the widths of a color block and of `IDX2`'s and no bit of their own (spec/opcode_table.json), so no number stands for
them here. -/
def tableRequest (nbits w : Nat) : Option Request :=
  if nbits ≤ 32 then some ⟨.idx2, bytesOfNat 4 w⟩
  else if nbits ≤ 48 then some ⟨.idx3, bytesOfNat 6 w⟩
  else if nbits ≤ 64 then some ⟨.color, bytesOfNat 8 w⟩
  else if nbits ≤ 72 then (if w / 2 ^ 64 = 0 then some ⟨.decrgb, bytesOfNat 8 w⟩ else none)
  else if nbits ≤ 136 then (if w / 2 ^ 128 = 1 then some ⟨.decrgba, bytesOfNat 16 w⟩ else none)
  else none

/-- The instruction the decoder reads from a word of the opcode table. -/
def decodeTableWord (nbits w : Nat) : Option Instr :=
  match tableRequest nbits w with
  | some r => (decode r.sel r.bytes).toOption
  | none => none

end Sys2Proof
end

