-- ==== Sys2Proof/Machine/State.lean ====
section
/-! DEFINITION. The state of the whole: the core instances (spec/10_state.md R21 to R31), the walker and its two
buffers at the core's boundary (R32, R34, R35), the parameters (spec/00_scope.md R6), and the requests and the call
that the caller has presented. Plain data. -/

namespace Sys2Proof.Machine

/-- One address space: an array of `len` bytes (R35, R50). `cells` lists the bytes that are not zero, addresses
strictly rising; `Memory.wf` (Machine/Ops.lean) says so. Every array of `len` bytes is one such list. -/
structure Memory where
  len : Nat
  cells : List Host.Cell
  deriving DecidableEq, Repr, Inhabited

/-- The registers of one core instance. They belong to one transaction (R29): no transaction reads one that it has
not itself written (R36). -/
structure Core where
  /-- the request bit `OP` (R21) -/
  op : BitVec 1
  /-- the color block `CB` (R21) -/
  cb : Block
  /-- the alpha block `AB` (R21) -/
  ab : Block
  /-- the mode tag `MODE` (R25) -/
  mode : Mode
  /-- the sums `r`, `g`, `b` (R26, R160) -/
  sums : Sums
  /-- the payload fields of the mode (R26) -/
  payload : Payload
  /-- the index table `IDX2` (R27) -/
  idx2 : Idx2Table
  /-- the index table `IDX3` (R28) -/
  idx3 : Idx3Table
  /-- `base1` (R26) -/
  base1 : Color
  /-- `base2` (R26) -/
  base2 : Color
  /-- the ordering bit `ord` of H mode (R26, R197) -/
  ord : BitVec 1
  /-- the distance index `di` (R26, R191, R197) -/
  di : BitVec 3
  /-- the magnitude `d` (R191, R197) -/
  d : Nat
  /-- the paint colors `paint[0..3]` (R26) -/
  paint : Vector Color 4
  /-- the corner color `O` (R26, R211) -/
  cornerO : Color
  /-- the corner color `H` (R26, R211) -/
  cornerH : Color
  /-- the corner color `V` (R26, R211) -/
  cornerV : Color
  /-- the alpha header `base`, `mult`, `atbl` (R220) -/
  alpha : AlphaFields
  /-- the result register file `PX` (R23) -/
  px : Vector Pixel 16
  /-- the response owed to the requester; `none` is the spec's own "owes no response" (R280) -/
  response : Option (Vector Pixel 16)
  deriving DecidableEq, Repr, Inhabited

/-- A walker call as the caller makes it: the call descriptor of R32. Its `source` and `dest` are the state's `src`
and `dst`, whose lengths are `srcLen` and `dstLen`. -/
structure Call where
  /-- 0 is `decodeColor`, 1 is `decodeColorWithAlpha` -/
  variant : BitVec 1
  width : BitVec 32
  height : BitVec 32
  deriving DecidableEq, Repr, Inhabited

/-- What a running call holds besides its descriptor (R34). All are natural numbers; none survives the call. -/
structure Walk where
  call : Call
  blockCountX : Nat
  blockCountY : Nat
  rowPitch : Nat
  /-- the block coordinate `bx` -/
  bx : Nat
  /-- the block coordinate `by` -/
  bY : Nat
  /-- the source cursor `sp` (R243) -/
  sp : Nat
  deriving DecidableEq, Repr, Inhabited

/-- The three errors of a call with the two lengths compared (R261, R263). -/
inductive CallError where
  /-- code 1: `srcLen < SRC_NEED` -/
  | sourceTooShort (srcLen srcNeed : Nat)
  /-- code 2: `dstLen < DST_MIN` -/
  | destinationTooSmall (dstLen dstMin : Nat)
  /-- code 3: the first two checks passed and `dstLen < DST_NEED` -/
  | accessOutOfRange (dstLen dstNeed : Nat)
  deriving DecidableEq, Repr, Inhabited

/-- The status that a call returns (R240). -/
inductive Status where
  | ok
  | error (e : CallError)
  deriving DecidableEq, Repr, Inhabited

/-- One walker with the buffers of its call: R15 has one walker for each call, and R250 lets calls on separate buffers
run at the same time. The state's own `src`, `dst`, `call`, `walk`, `status` and `dstCut` are those of the walker that
the next step moves; the others stand in `otherWalkers` (log 13). -/
structure Walker where
  src : Memory
  dst : Memory
  call : Option Call
  walk : Option Walk
  status : Option Status
  dstCut : Bool
  deriving DecidableEq, Repr, Inhabited

/-- The state of the machine. -/
structure State where
  /-- the parameters and table contents; no step changes them (R123) -/
  params : Params
  /-- the core instance that serves the next transaction -/
  core : Core
  /-- the other instances, in the order in which the walker comes to them; `P_NCORES` is one more than their
  number (R270) -/
  otherCores : List Core
  /-- requests presented and not yet served, the oldest first (R21, R284) -/
  requests : List Request
  /-- the source buffer `SRC`, which no step writes (R35) -/
  src : Memory
  /-- the destination buffer `DST`, which no step reads (R35) -/
  dst : Memory
  /-- the call that the caller has made and the walker not yet taken up -/
  call : Option Call
  /-- the running call; `none` is the spec's own: walker state "does not exist until a call starts" (R36) -/
  walk : Option Walk
  /-- the status of the last call that ended; `none` before the first and while a call runs (R240) -/
  status : Option Status
  /-- a reset has cut the last call short, so that `DST` is not defined for any observer (R282, U6); the model's own
  field (log 10) -/
  dstCut : Bool
  /-- the other walkers, in the order in which their turn comes; none unless calls run at the same time (R250,
  log 13) -/
  otherWalkers : List Walker
  deriving DecidableEq, Repr, Inhabited

/-- Why the machine stops. Both are the access outside a buffer of R50 and R70. No call that has passed its checks
reaches one (R265); they are for walker states that no run produces, and safe. -/
inductive Fault where
  /-- raised by the walker's read of a unit when `addr + n` is above `srcLen`; safe -/
  | sourceReadOutOfRange (addr n srcLen : Nat)
  /-- raised by the walker's write of a footprint at `off` with row pitch `pitch` when a byte of it is not below
  `dstLen`; safe -/
  | destinationWriteOutOfRange (off pitch dstLen : Nat)
  deriving DecidableEq, Repr, Inhabited

/-- Why the machine refuses to go on. -/
inductive Refusal where
  /-- raised by an arm of `exec` whose instruction has no meaning yet; safe -/
  | notModelled (mnemonic : String)
  /-- raised by a step whose request has not the one length its unit takes (R80); safe -/
  | undecodable (e : DecodeError)
  /-- raised by the start of a call whose `SRC_NEED` or `DST_NEED` does not fit a finite `P_ADDR_W` (R241); safe -/
  | addressWidth (addrW srcNeed dstNeed : Nat)
  deriving DecidableEq, Repr, Inhabited

/-- The registers of a core instance after reset: no response is owed (R280), and everything else is unspecified
(R36), so it is one of the free constants of Config.lean (log 1). -/
def Core.reset : Core where
  op := Config.resetBits 1 0
  cb := Config.resetBlock 0
  ab := Config.resetBlock 1
  mode := Config.resetMode
  sums := ⟨Config.resetInt 0, Config.resetInt 1, Config.resetInt 2⟩
  payload := Config.resetPayload
  idx2 := Vector.ofFn fun k : Fin 16 => Config.resetBits 2 k.val
  idx3 := Vector.ofFn fun k : Fin 16 => Config.resetBits 3 k.val
  base1 := Config.resetColor 0
  base2 := Config.resetColor 1
  ord := Config.resetBits 1 1
  di := Config.resetBits 3 16
  d := Config.resetNat 0
  paint := #v[Config.resetColor 2, Config.resetColor 3, Config.resetColor 4, Config.resetColor 5]
  cornerO := Config.resetColor 6
  cornerH := Config.resetColor 7
  cornerV := Config.resetColor 8
  alpha := Config.resetAlpha
  px := Vector.ofFn fun k : Fin 16 => Config.resetPixel k.val
  response := none

/-- The machine right after reset for every value of the parameters, `P_NCORES` among them (R6; 0 counts as 1), and for
whatever the caller has put into the buffers, which reset does not touch (R36, R282): every instance is idle, holds no
request and owes no response, all leave reset alike and ready, none parked (R270, R280); the tables hold their constant
contents, and no call exists (R36). -/
def State.resetWith (p : Params) (nCores : Nat) (src dst : Memory) : State where
  params := p
  core := Core.reset
  otherCores := List.replicate (nCores - 1) Core.reset
  requests := []
  src := src
  dst := dst
  call := none
  walk := none
  status := none
  dstCut := false
  otherWalkers := []

/-- The machine right after reset with every parameter at its default, `P_NCORES` 1 (R6), and with buffers of length 0:
the caller, who owns them, has allocated none yet (log 8). -/
def State.reset : State := State.resetWith defaultParams 1 ⟨0, []⟩ ⟨0, []⟩

/-! ### Named updates of the registers of a core -/

/-- The request is latched (R21). -/
def Core.withRequest (c : Core) (op : BitVec 1) (cb : Block) : Core := { c with op := op, cb := cb }

/-- The alpha block is latched (R21). -/
def Core.withAlphaBlock (c : Core) (ab : Block) : Core := { c with ab := ab }

/-- `MODE` and the three sums are written (R160, R162). -/
def Core.withMode (c : Core) (mode : Mode) (sums : Sums) : Core := { c with mode := mode, sums := sums }

/-- `IDX2` is written (R150). -/
def Core.withIdx2 (c : Core) (v : Idx2Table) : Core := { c with idx2 := v }

/-- `IDX3` is written (R152). -/
def Core.withIdx3 (c : Core) (v : Idx3Table) : Core := { c with idx3 := v }

/-- The payload and the two base colors are written (R26, R170, R171, R190, R196). -/
def Core.withBases (c : Core) (p : Payload) (base1 base2 : Color) : Core :=
  { c with payload := p, base1 := base1, base2 := base2 }

/-- The ordering bit is written (R197). -/
def Core.withOrd (c : Core) (ord : BitVec 1) : Core := { c with ord := ord }

/-- The distance index and the magnitude are written (R191, R197). -/
def Core.withDistance (c : Core) (di : BitVec 3) (d : Nat) : Core := { c with di := di, d := d }

/-- The paint colors are written (R192, R198). -/
def Core.withPaint (c : Core) (v : Vector Color 4) : Core := { c with paint := v }

/-- The payload and the corner colors are written (R210, R211). -/
def Core.withCorners (c : Core) (p : Payload) (o h v : Color) : Core :=
  { c with payload := p, cornerO := o, cornerH := h, cornerV := v }

/-- The alpha header is written (R220). -/
def Core.withAlphaHeader (c : Core) (f : AlphaFields) : Core := { c with alpha := f }

/-- `PX` is written (R23). -/
def Core.withPx (c : Core) (px : Vector Pixel 16) : Core := { c with px := px }

/-- The response is presented, or taken (R23, R280). -/
def Core.withResponse (c : Core) (r : Option (Vector Pixel 16)) : Core := { c with response := r }

/-! ### Named updates of the state -/

/-- The serving core instance is replaced. -/
def State.withCore (s : State) (c : Core) : State := { s with core := c }

/-- The core instances are replaced. -/
def State.withCores (s : State) (c : Core) (cs : List Core) : State := { s with core := c, otherCores := cs }

/-- The queue of presented requests is replaced. -/
def State.withRequests (s : State) (rs : List Request) : State := { s with requests := rs }

/-- The destination buffer is replaced. -/
def State.withDst (s : State) (m : Memory) : State := { s with dst := m }

/-- The call that waits is replaced. -/
def State.withCall (s : State) (c : Option Call) : State := { s with call := c }

/-- The running call and the status are replaced. -/
def State.withWalk (s : State) (w : Option Walk) (st : Option Status) : State := { s with walk := w, status := st }

/-- Another walker, with its buffers, becomes the one that the next step moves. -/
def State.withWalker (s : State) (v : Walker) : State :=
  { s with src := v.src, dst := v.dst, call := v.call, walk := v.walk, status := v.status, dstCut := v.dstCut }

/-- The line of the other walkers is replaced. -/
def State.withOtherWalkers (s : State) (vs : List Walker) : State := { s with otherWalkers := vs }

end Sys2Proof.Machine
end

