-- ==== Sys2Proof/Machine/Ops.lean ====
section
/-! DEFINITION. The named operations over the buffers and the registers, and the raising of an error, which is the
one exception-like event of this hardware (spec/60_exceptions.md R262). -/

namespace Sys2Proof.Machine

/-! ### Bytes of a buffer (spec/20_memory.md) -/

/-- What an address that no entry lists reads as. A buffer is an array with a byte at every offset (R50); the list
leaves out the bytes that are zero (log 8). -/
def unlisted : Byte := 0

/-- The byte that a list of cells gives an address. -/
def readCells : List Host.Cell → Nat → Byte
  | [], _ => unlisted
  | (x, v) :: rest, a => if x = a then v else readCells rest a

/-- The list with one byte stored: addresses stay strictly rising, and an unlisted value takes its entry out. -/
def storeCells : List Host.Cell → Nat → Byte → List Host.Cell
  | [], a, b => if b = unlisted then [] else [(a, b)]
  | (x, v) :: rest, a, b =>
    if a < x then (if b = unlisted then (x, v) :: rest else (a, b) :: (x, v) :: rest)
    else if a = x then (if b = unlisted then rest else (a, b) :: rest)
    else (x, v) :: storeCells rest a b

/-- The canonical form: addresses strictly rising and inside the buffer, no entry equal to what an unlisted address
reads as. -/
abbrev Memory.wf (m : Memory) : Prop :=
  m.cells.Pairwise (fun c d => c.1 < d.1) ∧ ∀ c ∈ m.cells, c.1 < m.len ∧ c.2 ≠ unlisted

/-- The byte at an offset (R50). -/
def Memory.read (m : Memory) (a : Nat) : Byte := readCells m.cells a

/-- One byte stored; a byte at or above `len` does not exist and the buffer stays as it is. -/
def Memory.store (m : Memory) (a : Nat) (b : Byte) : Memory :=
  if a < m.len then { m with cells := storeCells m.cells a b } else m

/-- `MemRead(space, a, n)`: the `n` bytes from offset `a`, lowest first; defined when `a + n <= len` (R14, R50). -/
def memRead (m : Memory) (a n : Nat) : Option (List Byte) :=
  if a + n ≤ m.len then some ((List.range n).map fun i => m.read (a + i)) else none

/-- Every byte of a list of addressed bytes lies in the buffer (R50). -/
def cellsInRange (m : Memory) (cs : List Host.Cell) : Bool := cs.all fun c => decide (c.1 < m.len)

/-- The bytes of a list stored one after the other, so that a later one stands. -/
def Memory.storeAll (m : Memory) : List Host.Cell → Memory
  | [] => m
  | c :: rest => (m.store c.1 c.2).storeAll rest

/-- `MemWrite` of a list of addressed bytes, single-byte writes (R62); defined when all of them lie in the buffer
(R50), and nothing is written otherwise. -/
def memWrite (m : Memory) (cs : List Host.Cell) : Option Memory :=
  if cellsInRange m cs then some (m.storeAll cs) else none

/-- The array of the given bytes, as the caller fills a buffer with it. -/
def Memory.ofBytes (bs : List Byte) : Memory :=
  (⟨bs.length, []⟩ : Memory).storeAll ((List.range bs.length).zip bs)

/-! ### Registers -/

/-- An operation on the registers of the serving core; nothing outside it changes. -/
def State.onCore (s : State) (f : Core → Core) : State := s.withCore (f s.core)

/-- The response is presented: the value of `PX` (R24, R230, R231). -/
def Core.respond (c : Core) : Core := c.withResponse (some c.px)

/-- The response is taken by the requester, who is owed none after it (R280). -/
def Core.takeResponse (c : Core) : Core := c.withResponse none

/-- The next block goes to the next instance, in turn; with one instance nothing changes (R250, R270; log 12). -/
def State.nextCore (s : State) : State :=
  match s.otherCores with
  | [] => s
  | c :: cs => s.withCores c (cs ++ [s.core])

/-! ### The end of a call -/

/-- `raise <Error>(info)`: the call ends at once with the error as its status; nothing is read, written or saved,
there is no handler to go to and none to return from (R262, R267). -/
def raiseError (e : CallError) (s : State) : State := (s.withCall none).withWalk none (some (.error e))

/-- `return OK` (R244, R248): the call ends and its walker state is gone. -/
def returnOk (s : State) : State := s.withWalk none (some .ok)

/-- The code of an error (R261, R263). -/
def CallError.code : CallError → Nat
  | .sourceTooShort _ _ => 1
  | .destinationTooSmall _ _ => 2
  | .accessOutOfRange _ _ => 3

end Sys2Proof.Machine
end

