-- ==== Sys2Proof/Machine/Alpha.lean ====
section
/-! DEFINITION. The alpha decoder (spec/46_eac_alpha.md). -/

namespace Sys2Proof.Machine

/-- The alpha of one pixel: `clamp(base + AMOD[atbl][IDX3[k]] * mult, 0, 255)`, a signed integer product (R222). -/
def alphaValue (p : Params) (f : AlphaFields) (x : BitVec 3) : Byte :=
  clampByte (channel f.base + amod p f.atbl x * (f.mult.toNat : Int))

/-- The alpha channel of every pixel is replaced; the color channels are not touched (R222). -/
def alphaRender (p : Params) (c : Core) : Core :=
  c.withPx (Vector.ofFn fun k : Fin 16 => { c.px[k] with a := alphaValue p c.alpha c.idx3[k] })

/-- `EACA8` on its header and its index table (R220 to R222). -/
def alphaBody (p : Params) (f : AlphaFields) (idx : Idx3Table) (c : Core) : Core :=
  alphaRender p ((c.withAlphaHeader f).withIdx3 idx)

/-- `EAC.A8` (R222). -/
def execEacA8 (f : AlphaFields) (idx : Idx3Table) (s : State) : Host.Outcome State Fault Refusal :=
  .next (s.onCore fun c => alphaBody s.params f idx c)

end Sys2Proof.Machine
end

