-- ==== Sys2Proof/Machine/Paint.lean ====
section
/-! DEFINITION. The T and H bodies (spec/44_t_h_modes.md): four paint colors, one of which each pixel's index
names. -/

namespace Sys2Proof.Machine

/-- The T base colors (R190). -/
def tBases (f : TFields) (c : Core) : Core :=
  c.withBases (.t f) (color4 f.c1R f.c1G f.c1B) (color4 f.c2R f.c2G f.c2B)

/-- The T distance: `di = da ‖ db` (R191). -/
def tDistance (f : TFields) (c : Core) : Core := c.withDistance (f.da ++ f.db) (dist (f.da ++ f.db))

/-- The T paint colors: base 1, then base 2 up, as it is, and down by `d` (R192). -/
def tPaint (c : Core) : Core :=
  c.withPaint #v[c.base1, c.base2.shift (c.d : Int), c.base2, c.base2.shift (-(c.d : Int))]

/-- The H base colors (R196). -/
def hBases (f : HFields) (c : Core) : Core :=
  c.withBases (.h f) (color4 f.c1R f.c1G f.c1B) (color4 f.c2R f.c2G f.c2B)

/-- The H ordering bit, from the two base colors (R197). -/
def hOrder (c : Core) : Core := c.withOrd (orderBit c.base1 c.base2)

/-- The H distance: `di = da ‖ db ‖ ord` (R197). -/
def hDistance (f : HFields) (c : Core) : Core := c.withDistance (f.da ++ f.db ++ c.ord) (dist (f.da ++ f.db ++ c.ord))

/-- The H paint colors: base 1 up and down by `d`, then base 2 up and down (R198). -/
def hPaint (c : Core) : Core :=
  c.withPaint
    #v[c.base1.shift (c.d : Int), c.base1.shift (-(c.d : Int)), c.base2.shift (c.d : Int), c.base2.shift (-(c.d : Int))]

/-- Every pixel is the paint color that its index names; alpha is 255 (R192, R198). -/
def paintRender (c : Core) : Core :=
  c.withPx (Vector.ofFn fun k : Fin 16 => (c.paint[c.idx2[k].toNat]'(c.idx2[k].isLt)).withAlpha 255)

/-- `TMODE`, reading `IDX2` (R192). -/
def tBody (f : TFields) (c : Core) : Core := paintRender (tPaint (tDistance f (tBases f c)))

/-- `HMODE`, reading `IDX2` (R198). -/
def hBody (f : HFields) (c : Core) : Core := paintRender (hPaint (hDistance f (hOrder (hBases f c))))

/-- `ETC2.T` (R192); `IDX2` is extracted from the instruction's own bytes 4 to 7 (R150). -/
def execEtc2T (f : TFields) (idx : Idx2Table) (s : State) : Host.Outcome State Fault Refusal :=
  .next (s.onCore fun c => tBody f (c.withIdx2 idx))

/-- `ETC2.H` (R198); `IDX2` is extracted from the instruction's own bytes 4 to 7 (R150). -/
def execEtc2H (f : HFields) (idx : Idx2Table) (s : State) : Host.Outcome State Fault Refusal :=
  .next (s.onCore fun c => hBody f (c.withIdx2 idx))

end Sys2Proof.Machine
end

