-- ==== Sys2Proof/Machine/Planar.lean ====
section
/-! DEFINITION. The Planar body (spec/45_planar.md): every pixel is interpolated from three corner colors. It reads
neither an index table nor a constant table (R213). -/

namespace Sys2Proof.Machine

/-- The corner colors (R211). -/
def planarCorners (f : PlanarFields) (c : Core) : Core :=
  c.withCorners (.planar f) (color676 f.oR f.oG f.oB) (color676 f.hR f.hG f.hB) (color676 f.vR f.vG f.vB)

/-- One channel of the pixel at column `i`, row `j`: the shift is arithmetic, `floor(t / 4)` (R11, R212). -/
def planarChannel (o h v : Byte) (i j : Nat) : Byte :=
  clampByte (channel o +
    (((i : Int) * (channel h - channel o) + (j : Int) * (channel v - channel o) + 2) >>> (2 : Nat)))

/-- The pixel number `k = i*4 + j`; alpha is 255 (R212). -/
def planarPixel (c : Core) (k : Fin 16) : Pixel where
  r := planarChannel c.cornerO.r c.cornerH.r c.cornerV.r (k.val / 4) (k.val % 4)
  g := planarChannel c.cornerO.g c.cornerH.g c.cornerV.g (k.val / 4) (k.val % 4)
  b := planarChannel c.cornerO.b c.cornerH.b c.cornerV.b (k.val / 4) (k.val % 4)
  a := 255

/-- The sixteen pixels of R212. -/
def planarRender (c : Core) : Core := c.withPx (Vector.ofFn (planarPixel c))

/-- `PLANAR` (R212). -/
def planarBody (f : PlanarFields) (c : Core) : Core := planarRender (planarCorners f c)

/-- `ETC2.P` (R212). -/
def execEtc2P (f : PlanarFields) (s : State) : Host.Outcome State Fault Refusal :=
  .next (s.onCore fun c => planarBody f c)

end Sys2Proof.Machine
end

