-- ==== Sys2Proof/Machine/Subblock.lean ====
section
/-! DEFINITION. The Individual and Differential bodies (spec/43_individual_differential.md): they differ only in how
the two base colors are coded, everything after them is shared (R174 to R176). -/

namespace Sys2Proof.Machine

/-- The Individual base colors (R170). -/
def individualBases (f : IndividualFields) (c : Core) : Core :=
  c.withBases (.individual f) (color4 f.c1R f.c1G f.c1B) (color4 f.c2R f.c2G f.c2B)

/-- A sum as the 5-bit operand of `extend5`. In a Differential block every sum is in 0..31 (R171), so nothing is
lost; instructions whose sums leave that range have no encoding (`DifferentialFields.wf`). -/
def sum5 (base : BitVec 5) (delta : BitVec 3) : BitVec 5 := BitVec.ofInt 5 (deltaSum base delta)

/-- The Differential base colors (R171). -/
def differentialBases (f : DifferentialFields) (c : Core) : Core :=
  c.withBases (.differential f) (color5 f.bR f.bG f.bB) (color5 (sum5 f.bR f.dR) (sum5 f.bG f.dG) (sum5 f.bB f.dB))

/-- The base color of the pixel at column `i`, row `j`: base 2 in subblock 2, except that the legacy parameter gives
base 1 to both halves when the flip bit is 0 (R176). -/
def subblockBase (p : Params) (flip : BitVec 1) (c : Core) (i j : Nat) : Color :=
  if inSecondSubblock flip i j && !(p.legacyNonflipBase1 && decide (flip = 0)) then c.base2 else c.base1

/-- The row of `IMOD` of the pixel at column `i`, row `j` (R176). -/
def subblockTable (tbl1 tbl2 : BitVec 3) (flip : BitVec 1) (i j : Nat) : BitVec 3 :=
  if inSecondSubblock flip i j then tbl2 else tbl1

/-- The pixel number `k = i*4 + j` with modifier column `IDX2[k]` (R176); alpha is 255 (R172). -/
def subblockPixel (p : Params) (tbl1 tbl2 : BitVec 3) (flip : BitVec 1) (c : Core) (k : Fin 16) : Pixel :=
  ((subblockBase p flip c (k.val / 4) (k.val % 4)).shift
    (imod p (subblockTable tbl1 tbl2 flip (k.val / 4) (k.val % 4)) c.idx2[k])).withAlpha 255

/-- The sixteen pixels of R176. -/
def subblockRender (p : Params) (tbl1 tbl2 : BitVec 3) (flip : BitVec 1) (c : Core) : Core :=
  c.withPx (Vector.ofFn (subblockPixel p tbl1 tbl2 flip c))

/-- `INDIV`, reading `IDX2` (R172). -/
def individualBody (p : Params) (f : IndividualFields) (c : Core) : Core :=
  subblockRender p f.tbl1 f.tbl2 f.flip (individualBases f c)

/-- `DIFF`, reading `IDX2` (R173). -/
def differentialBody (p : Params) (f : DifferentialFields) (c : Core) : Core :=
  subblockRender p f.tbl1 f.tbl2 f.flip (differentialBases f c)

/-- `ETC2.I` (R172); `IDX2` is extracted from the instruction's own bytes 4 to 7 (R150). -/
def execEtc2I (f : IndividualFields) (idx : Idx2Table) (s : State) : Host.Outcome State Fault Refusal :=
  .next (s.onCore fun c => individualBody s.params f (c.withIdx2 idx))

/-- `ETC2.D` (R173); `IDX2` is extracted from the instruction's own bytes 4 to 7 (R150). -/
def execEtc2D (f : DifferentialFields) (idx : Idx2Table) (s : State) : Host.Outcome State Fault Refusal :=
  .next (s.onCore fun c => differentialBody s.params f (c.withIdx2 idx))

end Sys2Proof.Machine
end

