-- ==== Sys2Proof/Machine/Units.lean ====
section
/-! DEFINITION. The inner units: the classifier (spec/42_mode_classifier.md) and the two index extractors
(spec/41_index_extractors.md). -/

namespace Sys2Proof.Machine

/-- `CLASSIFY` writes `MODE` and the three sums (R160, R162). -/
def classifyUnit (b0 b1 b2 b3 : Byte) (c : Core) : Core :=
  c.withMode (classifyMode b0 b1 b2 b3) (sumsOf b0 b1 b2)

/-- `CLASSIFY` (R162). -/
def execClassify (b0 b1 b2 b3 : Byte) (s : State) : Host.Outcome State Fault Refusal :=
  .next (s.onCore (classifyUnit b0 b1 b2 b3))

/-- `IDX2` (R150): writes nothing but `IDX2`. -/
def execIdx2 (b4 b5 b6 b7 : Byte) (s : State) : Host.Outcome State Fault Refusal :=
  .next (s.onCore fun c => c.withIdx2 (extractIdx2 b4 b5 b6 b7))

/-- `IDX3` (R152). -/
def execIdx3 (a2 a3 a4 a5 a6 a7 : Byte) (s : State) : Host.Outcome State Fault Refusal :=
  .next (s.onCore fun c => c.withIdx3 (extractIdx3 a2 a3 a4 a5 a6 a7))

end Sys2Proof.Machine
end

