-- ==== Sys2Proof/Machine/BlockOps.lean ====
section
/-! DEFINITION. The two core operations (spec/47_block_ops.md), composed of the units. -/

namespace Sys2Proof.Machine

/-- The body that `MODE` names, on the fields of the latched block; the mode is not tested again (R230, R290). -/
def runBody (p : Params) (c : Core) : Core :=
  match c.mode with
  | .individual => individualBody p (individualFields c.cb) c
  | .differential => differentialBody p (differentialFields c.cb) c
  | .t => tBody (tFields c.cb) c
  | .h => hBody (hFields c.cb) c
  | .planar => planarBody (planarFields c.cb) c

/-- The mode and the sums of the latched color block (R162). -/
def classifyLatched (c : Core) : Core := classifyUnit c.cb.b0 c.cb.b1 c.cb.b2 c.cb.b3 c

/-- The index table of the latched color block (R150); a Planar body does not read it (R213). -/
def extractLatched (c : Core) : Core := c.withIdx2 (blockIdx2 c.cb)

/-- The steps of `DECRGB` on the latched color block (R230). -/
def decodeColorBlock (p : Params) (c : Core) : Core := runBody p (extractLatched (classifyLatched c))

/-- `EACA8` on the latched alpha block (R231). -/
def decodeAlphaBlock (p : Params) (c : Core) : Core := alphaBody p (alphaFields c.ab) (blockIdx3 c.ab) c

/-- `DECRGB cb` (R230): `AB` is ignored and stays as it is. -/
def execDecrgb (cb : Block) (s : State) : Host.Outcome State Fault Refusal :=
  .next (s.onCore fun c => (decodeColorBlock s.params (c.withRequest 0 cb)).respond)

/-- `DECRGBA ab, cb` (R231): color first, then the alpha decoder's values stand (R288). -/
def execDecrgba (ab cb : Block) (s : State) : Host.Outcome State Fault Refusal :=
  .next (s.onCore fun c =>
    (decodeAlphaBlock s.params (decodeColorBlock s.params ((c.withRequest 1 cb).withAlphaBlock ab))).respond)

end Sys2Proof.Machine
end

