-- ==== Sys2Proof/Machine/Dispatch.lean ====
section
/-! DEFINITION. The meaning of every instruction of spec/opcode_table.json, one arm per constructor. -/

namespace Sys2Proof.Machine

def exec (i : Instr) (s : State) : Host.Outcome State Fault Refusal :=
  match i with
  | .etc2I f idx => Sys2Proof.Machine.execEtc2I f idx s
  | .etc2T f idx => Sys2Proof.Machine.execEtc2T f idx s
  | .etc2H f idx => Sys2Proof.Machine.execEtc2H f idx s
  | .etc2P f => Sys2Proof.Machine.execEtc2P f s
  | .etc2D f idx => Sys2Proof.Machine.execEtc2D f idx s
  | .eacA8 f idx => Sys2Proof.Machine.execEacA8 f idx s
  | .decrgb cb => Sys2Proof.Machine.execDecrgb cb s
  | .decrgba ab cb => Sys2Proof.Machine.execDecrgba ab cb s
  | .classify b0 b1 b2 b3 => Sys2Proof.Machine.execClassify b0 b1 b2 b3 s
  | .idx2 b4 b5 b6 b7 => Sys2Proof.Machine.execIdx2 b4 b5 b6 b7 s
  | .idx3 a2 a3 a4 a5 a6 a7 => Sys2Proof.Machine.execIdx3 a2 a3 a4 a5 a6 a7 s

end Sys2Proof.Machine
end

