-- ==== Sys2Proof/Machine/Walker.lean ====
section
/-! DEFINITION. The walker at the core's boundary (spec/48_walker_boundary.md), less the core operation itself, which
Step.lean runs between `fetchUnit` and `writeBack`; and what the caller can do (R240). -/

namespace Sys2Proof.Machine

/-! ### Derived values of a call, in natural numbers without wrap-around (R241) -/

/-- `S`: 8 for color only, 16 with alpha. -/
def unitSize (variant : BitVec 1) : Nat := if variant = 0 then 8 else 16

/-- `ceil(n / 4)`. -/
def blockCount (n : BitVec 32) : Nat := (n.toNat + 3) / 4

/-- `rowPitch = max(width*4, 16)` (R55). -/
def pitchOf (width : BitVec 32) : Nat := max (width.toNat * 4) 16

/-- `SRC_NEED`. -/
def srcNeed (c : Call) : Nat := blockCount c.width * blockCount c.height * unitSize c.variant

/-- `DST_MIN`, the source's threshold. -/
def dstMin (c : Call) : Nat := pitchOf c.width * c.height.toNat

/-- `DST_NEED`, the bytes that a walk really needs (R58). -/
def dstNeed (c : Call) : Nat :=
  if blockCount c.width * blockCount c.height = 0 then 0
  else (4 * blockCount c.height - 1) * pitchOf c.width + 16 * blockCount c.width

/-- The offset of the footprint of block `(bx, by)` (R56). -/
def blockOffset (pitch bx bY : Nat) : Nat := bY * 4 * pitch + bx * 16

/-- The offset of the unit of block `(bx, by)` in `SRC` (R51). -/
def unitOffset (c : Call) (bx bY : Nat) : Nat := (bY * blockCount c.width + bx) * unitSize c.variant

/-! ### The start of a call -/

/-- A number fits a finite address width; every number fits the unbounded one (R241). -/
def fitsAddr (addrW : Option Nat) (n : Nat) : Bool :=
  match addrW with
  | none => true
  | some w => decide (n < 2 ^ w)

/-- The walker state at the start of a walk: `sp = 0`, `(by, bx) = (0, 0)` (R36, R244). -/
def startWalk (c : Call) : Walk where
  call := c
  blockCountX := blockCount c.width
  blockCountY := blockCount c.height
  rowPitch := pitchOf c.width
  bx := 0
  bY := 0
  sp := 0

/-- The three checks in the order of their codes, before anything is read or written (R242, R261, R263, R264). -/
def checkCall (c : Call) (srcLen dstLen : Nat) : Option CallError :=
  if srcLen < srcNeed c then some (.sourceTooShort srcLen (srcNeed c))
  else if dstLen < dstMin c then some (.destinationTooSmall dstLen (dstMin c))
  else if dstLen < dstNeed c then some (.accessOutOfRange dstLen (dstNeed c))
  else none

/-- A call is taken up: refused if its sizes do not fit a finite `P_ADDR_W` (R241, log 11), ended by the first check
that fails (R264), ended with `OK` if it has no blocks (R247), and otherwise its walk begins. -/
def startCall (c : Call) (s : State) : Host.Outcome State Fault Refusal :=
  if fitsAddr s.params.addrW (srcNeed c) && fitsAddr s.params.addrW (dstNeed c) then
    match checkCall c s.src.len s.dst.len with
    | some e => .next (raiseError e s)
    | none =>
      if blockCount c.width * blockCount c.height = 0 then .next (returnOk (s.withCall none))
      else .next ((s.withCall none).withWalk (some (startWalk c)) none)
  else .refused (.addressWidth (s.params.addrW.getD 0) (srcNeed c) (dstNeed c))

/-! ### One step of the walk (R245) -/

/-- The fetch: `S` bytes from `SRC` at `sp` (R69), presented to the core with `OP = variant` (R32). -/
def fetchUnit (w : Walk) (s : State) : Option Request :=
  match memRead s.src w.sp (unitSize w.call.variant) with
  | some bytes => some ⟨selectOfOp w.call.variant, bytes⟩
  | none => none

/-- The four bytes of a pixel at an offset: R, G, B, A ascending (R54). -/
def pixelCells (a : Nat) (p : Pixel) : List Host.Cell := [(a, p.r), (a + 1, p.g), (a + 2, p.b), (a + 3, p.a)]

/-- The 64 bytes of a footprint: pixel `(i, j)` at `off + j*P + i*4` (R56, R245), never cropped (R57, R246). -/
def footprintCells (off pitch : Nat) (px : Vector Pixel 16) : List Host.Cell :=
  [0, 1, 2, 3].flatMap fun j : Fin 4 =>
    [0, 1, 2, 3].flatMap fun i : Fin 4 =>
      pixelCells (off + j.val * pitch + i.val * 4) (px[i.val * 4 + j.val]'(by omega))

/-- The walker moves on: `sp` by `S`, the coordinates in row-major order; after the last block the call ends with
`OK` (R243, R244). -/
def advanceWalk (w : Walk) (s : State) : State :=
  if w.bx + 1 < w.blockCountX then
    s.withWalk (some { w with bx := w.bx + 1, sp := w.sp + unitSize w.call.variant }) none
  else if w.bY + 1 < w.blockCountY then
    s.withWalk (some { w with bx := 0, bY := w.bY + 1, sp := w.sp + unitSize w.call.variant }) none
  else returnOk s

/-- The write-back of one step, from the `PX` of the core that served it: all 64 bytes or, where one would lie
outside `DST`, a fault and none (R70, R245). The walker takes the response, and the next block goes to the next
instance. -/
def writeBack (w : Walk) (s : State) : Host.Outcome State Fault Refusal :=
  match memWrite s.dst (footprintCells (blockOffset w.rowPitch w.bx w.bY) w.rowPitch s.core.px) with
  | some m => .next (advanceWalk w (((s.withDst m).onCore Core.takeResponse).nextCore))
  | none => .fault (.destinationWriteOutOfRange (blockOffset w.rowPitch w.bx w.bY) w.rowPitch s.dst.len)

/-! ### The caller (R240) and reset: what the outside does between two steps -/

/-- The caller presents a request at the core's input side (R21). -/
def State.present (s : State) (r : Request) : State := s.withRequests (s.requests ++ [r])

/-- The walker that the next step moves, with its buffers. -/
def State.walker (s : State) : Walker := ⟨s.src, s.dst, s.call, s.walk, s.status, s.dstCut⟩

/-- The walker has a call that has not returned. -/
def Walker.busy (v : Walker) : Bool := v.call.isSome || v.walk.isSome

/-- A walker to which the caller has given two buffers and a call; its `DST` is no longer one that a reset cut. -/
def Walker.withNewCall (v : Walker) (c : Call) (src dst : Memory) : Walker :=
  { v with src := src, dst := dst, call := some c, dstCut := false }

/-- The caller allocates both buffers, fills them and makes a call (R240, R249, R281). If the walker in front is free it
takes the call. DESIGN CHOICE (logs 10, 13, 19) where a call of that walker has not returned: R15 (one walker per call),
R65 and R289 (the buffers of a running call are not to be touched) and R250 (calls on separate buffers do not interact)
leave open what the call meets, and the model gives it a walker and two buffers of its own, at the end of the line;
the call in front keeps its buffers and everything else. That a caller reaches into the buffers of a running call
(U2, "refuse") cannot be written with it. -/
def State.makeCall (s : State) (c : Call) (src dst : Memory) : State :=
  if s.walker.busy then s.withOtherWalkers (s.otherWalkers ++ [⟨src, dst, some c, none, none, false⟩])
  else s.withWalker (s.walker.withNewCall c src dst)

/-- The turn passes to the next walker. When it does is not the machine's to say: every interleaving of calls that run
at the same time is a sequence of steps and of these (R250; DESIGN CHOICE, log 13). -/
def State.nextWalker (s : State) : State :=
  match s.otherWalkers with
  | [] => s
  | v :: vs => (s.withWalker v).withOtherWalkers (vs ++ [s.walker])

/-- What an observer may see of a walker's `DST`: nothing from the making of a call to its return (R65 (c), U6), and
nothing after a reset that cut a call (R282). -/
def Walker.visibleDst (v : Walker) : Option Memory := if v.busy || v.dstCut then none else some v.dst

/-- What an observer may see of the `DST` of the walker in front. -/
def State.visibleDst (s : State) : Option Memory := s.walker.visibleDst

/-- Reset at a walker: both buffers stay as they are and no call exists (R36, R282); a call that has not returned is cut,
and its `DST` is not defined for any observer from then on (R282, U6; log 10). -/
def Walker.applyReset (v : Walker) : Walker := ⟨v.src, v.dst, none, none, none, v.busy || v.dstCut⟩

/-- Reset of a machine in any state (R280, R282): every core instance as `Core.reset` has it, no request held, no
response owed, no call; the parameters, the tables, the number of instances and every buffer as they are. -/
def State.applyReset (s : State) : State :=
  ((((s.withCores Core.reset (s.otherCores.map fun _ => Core.reset)).withRequests []).withWalker
    s.walker.applyReset)).withOtherWalkers (s.otherWalkers.map Walker.applyReset)

end Sys2Proof.Machine
end

