-- ==== Sys2Proof/Machine/Step.lean ====
section
/-! DEFINITION. One step of the machine: the oldest presented request is served; else the running call takes one
step of its walk (spec/48_walker_boundary.md R245); else a waiting call is started; else the core is idle. The order
among the three and the size of a step are the model's (log 4). Of several walkers the one in front moves; whose turn it
is comes from outside (`State.nextWalker`, log 13). -/

namespace Sys2Proof.Machine

/-- A request is decoded and run on a state (R20, R232: whole, with no intermediate state). -/
def serve (r : Request) (s : State) : Host.Outcome State Fault Refusal :=
  match decode r.sel r.bytes with
  | .ok i => exec i s
  | .error e => .refused (.undecodable e)

/-- One step of the walk: fetch, decode, write back (R245). -/
def walkStep (w : Walk) (s : State) : Host.Outcome State Fault Refusal :=
  match fetchUnit w s with
  | none => .fault (.sourceReadOutOfRange w.sp (unitSize w.call.variant) s.src.len)
  | some r =>
    match serve r s with
    | .next t => writeBack w t
    | .fault f => .fault f
    | .refused x => .refused x

/-- One step of the machine. -/
def step (s : State) : Host.Outcome State Fault Refusal :=
  match s.requests with
  | r :: rest => serve r (s.withRequests rest)
  | [] =>
    match s.walk with
    | some w => walkStep w s
    | none =>
      match s.call with
      | some c => startCall c s
      | none => .next s

/-- `s` with the instruction of an opcode-table word presented as the oldest request, so that the very next step runs
it (log 2). A number that stands for no row is presented as a request that the decoder refuses. -/
def State.withFetchWord (s : State) (nbits w : Nat) : State :=
  match tableRequest nbits w with
  | some r => s.withRequests (r :: s.requests)
  | none => s.withRequests (⟨.color, []⟩ :: s.requests)

end Sys2Proof.Machine
end

