-- ==== Sys2Proof/Safety.lean ====
section
/-! DEFINITION. What counts as a safe run, in the terms that claims use. -/

namespace Sys2Proof

open Machine

/-- The walker state of a call that has passed its checks (R241 to R244, R261, R263): the derived values are the
call's, they fit the address width, the coordinates are inside the grid, the cursor is where R243 says, and both buffers are large enough. -/
structure WalkOk (s : State) (w : Walk) : Prop where
  countX : w.blockCountX = blockCount w.call.width
  countY : w.blockCountY = blockCount w.call.height
  pitch : w.rowPitch = pitchOf w.call.width
  bx_lt : w.bx < w.blockCountX
  bY_lt : w.bY < w.blockCountY
  cursor : w.sp = unitOffset w.call w.bx w.bY
  source : srcNeed w.call ≤ s.src.len
  dest : dstNeed w.call ≤ s.dst.len
  srcFits : fitsAddr s.params.addrW (srcNeed w.call) = true
  dstFits : fitsAddr s.params.addrW (dstNeed w.call) = true

/-- What the invariant says of the walker in front: both buffers are in canonical form, and a running call has passed
its checks and is where its cursor says. -/
structure WalkerOk (s : State) : Prop where
  src_wf : s.src.wf
  dst_wf : s.dst.wf
  walk_ok : ∀ w, s.walk = some w → WalkOk s w

/-- The invariant of the machine: it holds of the walker in front, and of each other one in its turn. -/
structure Inv (s : State) : Prop extends WalkerOk s where
  others_ok : ∀ v ∈ s.otherWalkers, WalkerOk (s.withWalker v)

/-- Every presented request has the one length that its unit takes (R80). -/
def RequestsOk (s : State) : Prop := ∀ r ∈ s.requests, r.bytes.length = r.sel.byteLength

/-- The step does not fault. -/
def StepSafe (s : State) : Prop := ∀ f, step s ≠ .fault f

end Sys2Proof
end

