-- ==== Sys2Proof/Certificates/Slice0/Obligations.lean ====
section
/-! DEFINITION. The statements for the provers. Where a rule gives a formula the statement writes it in a form of its
own (a replicated 4-bit field is `17*x`, a clamp is `max 0 (min 255 v)`, a field is a quotient and a remainder), so that
it does not repeat the model's definition. -/

namespace Sys2Proof.Claim

open Machine

/-! ### Vocabulary -/

/-- An unsigned value read as an integer (R10). -/
def nat (n : Nat) : Int := (n : Int)

/-- Saturation to 0..255 (R129). -/
def sat (v : Int) : Int := max 0 (min 255 v)

/-- A replicated 4-bit field (R124). -/
def rep4 (x : BitVec 4) : Int := 17 * nat x.toNat

/-- A replicated 5-bit value (R125). -/
def rep5 (x : Int) : Int := 8 * x + x / 4

/-- A replicated 6-bit field (R126). -/
def rep6 (x : BitVec 6) : Int := 4 * nat x.toNat + nat x.toNat / 16

/-- A replicated 7-bit field (R127). -/
def rep7 (x : BitVec 7) : Int := 2 * nat x.toNat + nat x.toNat / 64

/-- A 3-bit pattern as two's complement (R130). -/
def delta (v : BitVec 3) : Int := if 4 ≤ v.toNat then nat v.toNat - 8 else nat v.toNat

/-- The sum that a byte makes: its high five bits plus its low three as a delta (R160). -/
def sumOfByte (b : Byte) : Int :=
  nat (b.toNat / 8) + (if 4 ≤ b.toNat % 8 then nat (b.toNat % 8) - 8 else nat (b.toNat % 8))

/-- Bit `n` of a byte as a number (R7). -/
def bit (b : Byte) (n : Nat) : Nat := b.toNat / 2 ^ n % 2

/-- The magnitude that a distance index selects (R120). -/
def magnitude (n : Nat) : Int := ([3, 6, 11, 16, 23, 32, 41, 64] : List Int).getD n 0

/-- The pixel number `k = i*4 + j` of column `i`, row `j` in a result (R12, R23). -/
def at_ (px : Vector Pixel 16) (i j : Fin 4) : Pixel := px[i.val * 4 + j.val]'(by omega)

/-- The index of the pixel at column `i`, row `j` (R151, R153). -/
def idxAt {w : Nat} (v : Vector (BitVec w) 16) (i j : Fin 4) : BitVec w := v[i.val * 4 + j.val]'(by omega)

/-- A color has these three channel values. -/
def ColorIs (c : Color) (r g b : Int) : Prop := nat c.r.toNat = r ∧ nat c.g.toNat = g ∧ nat c.b.toNat = b

/-- A pixel has these four channel values. -/
def PixelIs (p : Pixel) (r g b a : Int) : Prop :=
  nat p.r.toNat = r ∧ nat p.g.toNat = g ∧ nat p.b.toNat = b ∧ nat p.a.toNat = a

/-- Everything outside the registers of the serving core is as before: the parameters and tables, the other core
instances, the queue, the call, the walker, the status, every byte of both buffers, and the other walkers. -/
structure OutsideCoreUnchanged (s t : State) : Prop where
  params : t.params = s.params
  otherCores : t.otherCores = s.otherCores
  requests : t.requests = s.requests
  call : t.call = s.call
  walk : t.walk = s.walk
  status : t.status = s.status
  srcLen : t.src.len = s.src.len
  dstLen : t.dst.len = s.dst.len
  srcBytes : ∀ a, t.src.read a = s.src.read a
  dstBytes : ∀ a, t.dst.read a = s.dst.read a
  src : t.src = s.src
  dst : t.dst = s.dst
  dstCut : t.dstCut = s.dstCut
  otherWalkers : t.otherWalkers = s.otherWalkers

/-- Subblock 2 by pixel number, as R175 lists it: the columns 2 and 3 when the flip bit is 0, the rows 2 and 3 when it
is 1. -/
def second (flip : BitVec 1) (i j : Fin 4) : Bool := if flip = 0 then decide (2 ≤ i.val) else decide (2 ≤ j.val)

/-- R176 with its legacy parameter, for one pixel: base `(r1, g1, b1)` or `(r2, g2, b2)`, the modifier of the pixel's
table row and index added to each channel, each clamped, alpha 255. -/
def SubblockPixel (p : Params) (flip : BitVec 1) (tbl1 tbl2 : BitVec 3) (idx : Idx2Table) (r1 g1 b1 r2 g2 b2 : Int)
    (i j : Fin 4) (x : Pixel) : Prop :=
  let useBase2 : Bool := second flip i j && !(p.legacyNonflipBase1 && decide (flip = 0))
  let m := imod p (if second flip i j then tbl2 else tbl1) (idxAt idx i j)
  PixelIs x (sat ((if useBase2 then r2 else r1) + m)) (sat ((if useBase2 then g2 else g1) + m))
    (sat ((if useBase2 then b2 else b1) + m)) 255

/-- One channel of the T paint color that an index names (R192). -/
def tChannel (b1 b2 d : Int) (x : BitVec 2) : Int :=
  if x = 0 then b1 else if x = 1 then sat (b2 + d) else if x = 2 then b2 else sat (b2 - d)

/-- One channel of the H paint color that an index names (R198). -/
def hChannel (b1 b2 d : Int) (x : BitVec 2) : Int :=
  if x = 0 then sat (b1 + d) else if x = 1 then sat (b1 - d) else if x = 2 then sat (b2 + d) else sat (b2 - d)

/-- The packed integer of three replicated 4-bit fields (R197). -/
def packed (r g b : BitVec 4) : Int := rep4 r * 65536 + rep4 g * 256 + rep4 b

/-- `ord` of an H block (R197). -/
def hOrd (f : HFields) : Nat := if packed f.c1R f.c1G f.c1B ≥ packed f.c2R f.c2G f.c2B then 1 else 0

/-- One channel of a Planar pixel: `/` on integers is the floor here, the divisor being positive (R11, R212). -/
def planar (o h v : Int) (i j : Fin 4) : Int :=
  sat (o + (nat i.val * (h - o) + nat j.val * (v - o) + 2) / 4)

/-- The address of channel `ch` of pixel `(i, j)` of block `(bx, by)`: row `4*by + j` of the pitch, column
`4*bx + i`, four bytes a pixel (R53, R54, R56). -/
def byteAddr (c : Call) (bx bY : Nat) (i j ch : Fin 4) : Nat :=
  (4 * bY + j.val) * pitchOf c.width + (4 * bx + i.val) * 4 + ch.val

/-- Channel `ch` of a pixel, in memory order (R54). -/
def channelOf (p : Pixel) (ch : Fin 4) : Byte :=
  if ch = 0 then p.r else if ch = 1 then p.g else if ch = 2 then p.b else p.a

/-- The block whose byte 0 is at offset `a` of a buffer (R52, R60). -/
def blockAt (m : Memory) (a : Nat) : Block :=
  ⟨m.read a, m.read (a + 1), m.read (a + 2), m.read (a + 3), m.read (a + 4), m.read (a + 5), m.read (a + 6),
    m.read (a + 7)⟩

/-- The core operation that the unit of block `(bx, by)` asks for (R51, R52, R245). -/
def unitInstr (c : Call) (src : Memory) (bx bY : Nat) : Instr :=
  if c.variant = 0 then .decrgb (blockAt src (8 * (bY * blockCount c.width + bx)))
  else .decrgba (blockAt src (16 * (bY * blockCount c.width + bx)))
    (blockAt src (16 * (bY * blockCount c.width + bx) + 8))

/-- What `PX` holds after an instruction, by `exec`. -/
def pxAfter (i : Instr) (s : State) : Vector Pixel 16 :=
  match exec i s with
  | .next t => t.core.px
  | _ => s.core.px

/-- A call waits, nothing else is presented or running, its sizes fit the address width, and both buffers are in
canonical form. -/
structure CallWaits (s : State) (c : Call) : Prop where
  requests : s.requests = []
  walk : s.walk = none
  call : s.call = some c
  srcFits : fitsAddr s.params.addrW (srcNeed c) = true
  dstFits : fitsAddr s.params.addrW (dstNeed c) = true
  src_wf : s.src.wf
  dst_wf : s.dst.wf

/-- The three checks of the call pass (R261, R263). -/
structure ChecksPass (s : State) (c : Call) : Prop where
  source : srcNeed c ≤ s.src.len
  destMin : dstMin c ≤ s.dst.len
  destNeed : dstNeed c ≤ s.dst.len

/-- Two states that differ at most in the registers and the number of the core instances and in `P_LATENCY`. -/
structure SameButCores (s s' : State) : Prop where
  imod : s'.params.imodRows = s.params.imodRows
  amod : s'.params.amodRows = s.params.amodRows
  legacy : s'.params.legacyNonflipBase1 = s.params.legacyNonflipBase1
  addrW : s'.params.addrW = s.params.addrW
  requests : s'.requests = s.requests
  src : s'.src = s.src
  dst : s'.dst = s.dst
  call : s'.call = s.call
  walk : s'.walk = s.walk
  status : s'.status = s.status
  dstCut : s'.dstCut = s.dstCut
  otherWalkers : s'.otherWalkers = s.otherWalkers

/-- Two outcomes of the same kind: equal reasons, or next states that differ at most in the cores. -/
def SameOutcome (o o' : Host.Outcome State Fault Refusal) : Prop :=
  match o, o' with
  | .next t, .next t' => SameButCores t t'
  | .fault f, .fault f' => f = f'
  | .refused r, .refused r' => r = r'
  | _, _ => False

end Sys2Proof.Claim

section Statements

open Sys2Proof Sys2Proof.Machine Sys2Proof.Claim

/-! ### Encoding -/

/-- R83 to R89, R93: decoding the bytes of a well-formed instruction gives it back, every field and every index at
every value. -/
def Obligations.DecodeOfEncodeIsTheInstruction : Prop :=
  ∀ i : Instr, i.wf = true → decode i.select (encode i) = .ok i

/-- R92, R93: whatever the decoder reads is well formed, and encoding it gives the same bytes back, the bits that no
body reads among them. -/
def Obligations.EncodeOfDecodeIsTheBytes : Prop :=
  ∀ (sel : Select) (bytes : List Byte) (i : Instr), decode sel bytes = .ok i →
    i.wf = true ∧ i.select = sel ∧ encode i = bytes

/-- R80, R92: there is no illegal encoding. The decoder refuses a request only for its length. -/
def Obligations.OnlyTheLengthIsRefused : Prop :=
  ∀ (sel : Select) (bytes : List Byte),
    (bytes.length = sel.byteLength → ∃ i, decode sel bytes = .ok i) ∧
    (bytes.length ≠ sel.byteLength → decode sel bytes = .error (.wrongLength sel bytes.length))

/-- R82: the sixteen overflow bytes; what tells the first ten and the last six of them apart and what their sums are;
and the one of them that carries a given pair of 2-bit values. -/
def Obligations.OverflowSetIsTheSixteenBytes : Prop :=
  (∀ b : Byte, ovf b = true ↔
    b ∈ ([0x04, 0x05, 0x06, 0x07, 0x0C, 0x0D, 0x0E, 0x14, 0x15, 0x1C, 0xEB, 0xF2, 0xF3, 0xF9, 0xFA, 0xFB] : List Byte)) ∧
  (∀ b ∈ ([0x04, 0x05, 0x06, 0x07, 0x0C, 0x0D, 0x0E, 0x14, 0x15, 0x1C] : List Byte),
    b.toNat / 32 = 0 ∧ bit b 2 = 1 ∧ b.toNat / 8 % 4 + b.toNat % 4 < 4 ∧ -4 ≤ sumOfByte b ∧ sumOfByte b ≤ -1) ∧
  (∀ b ∈ ([0xEB, 0xF2, 0xF3, 0xF9, 0xFA, 0xFB] : List Byte),
    b.toNat / 32 = 7 ∧ bit b 2 = 0 ∧ 4 ≤ b.toNat / 8 % 4 + b.toNat % 4 ∧ 32 ≤ sumOfByte b ∧ sumOfByte b ≤ 34) ∧
  ∀ (a c : BitVec 2) (b : Byte),
    (ovf b = true ∧ b.toNat / 8 % 4 = a.toNat ∧ b.toNat % 4 = c.toNat) ↔
      b.toNat = if 4 ≤ a.toNat + c.toNat then 0xE0 + 8 * a.toNat + c.toNat else 8 * a.toNat + 4 + c.toNat

/-- R91: rows 1 to 5 of the opcode map. Which body a color block selects, by the diff bit and the sums of its first
three bytes. -/
def Obligations.ColorBlockSelectsOneBody : Prop :=
  ∀ b : Block,
    (bit b.b3 1 = 0 → ∃ f idx, decodeColor b = .etc2I f idx) ∧
    (bit b.b3 1 = 1 → (sumOfByte b.b0 < 0 ∨ 31 < sumOfByte b.b0) → ∃ f idx, decodeColor b = .etc2T f idx) ∧
    (bit b.b3 1 = 1 → (0 ≤ sumOfByte b.b0 ∧ sumOfByte b.b0 ≤ 31) → (sumOfByte b.b1 < 0 ∨ 31 < sumOfByte b.b1) →
      ∃ f idx, decodeColor b = .etc2H f idx) ∧
    (bit b.b3 1 = 1 → (0 ≤ sumOfByte b.b0 ∧ sumOfByte b.b0 ≤ 31) → (0 ≤ sumOfByte b.b1 ∧ sumOfByte b.b1 ≤ 31) →
      (sumOfByte b.b2 < 0 ∨ 31 < sumOfByte b.b2) → ∃ f, decodeColor b = .etc2P f) ∧
    (bit b.b3 1 = 1 → (0 ≤ sumOfByte b.b0 ∧ sumOfByte b.b0 ≤ 31) → (0 ≤ sumOfByte b.b1 ∧ sumOfByte b.b1 ≤ 31) →
      (0 ≤ sumOfByte b.b2 ∧ sumOfByte b.b2 ≤ 31) → ∃ f idx, decodeColor b = .etc2D f idx)

/-- A few words written out from the tables of R83 to R89 decode to the instructions they stand for (the vectors V1,
V20, V28, V38, V12, V50 of spec/95_test_vectors.md). -/
def Obligations.WordsOfTheSpecDecode : Prop :=
  decode .color [0, 0, 0, 0, 0, 0, 0, 0] =
    .ok (.etc2I ⟨0, 0, 0, 0, 0, 0, 0, 0, 0⟩ #v[0, 0, 0, 0, 0, 0, 0, 0, 0, 0, 0, 0, 0, 0, 0, 0]) ∧
  decode .color [0xF2, 0x50, 0x3C, 0xFB, 0xCC, 0xCC, 0xAA, 0xAA] =
    .ok (.etc2T ⟨10, 5, 0, 3, 12, 15, 2, 1⟩ #v[0, 1, 2, 3, 0, 1, 2, 3, 0, 1, 2, 3, 0, 1, 2, 3]) ∧
  decode .color [0x62, 0x0C, 0x9D, 0xB6, 0xCC, 0xCC, 0xAA, 0xAA] =
    .ok (.etc2H ⟨0, 12, 4, 9, 3, 11, 6, 1, 0⟩ #v[0, 1, 2, 3, 0, 1, 2, 3, 0, 1, 2, 3, 0, 1, 2, 3]) ∧
  decode .color [0x7F, 0x7F, 0xFB, 0x82, 0x00, 0x04, 0x10, 0x20] =
    .ok (.etc2P ⟨0, 0, 63, 127, 63, 0, 0, 0, 32, 64, 32⟩) ∧
  decode .color [0x84, 0x1D, 0xF1, 0x57, 0x66, 0x66, 0xAA, 0xAA] =
    .ok (.etc2D ⟨16, 3, 30, 4, 5, 1, 2, 5, 1⟩ #v[0, 3, 2, 1, 0, 3, 2, 1, 0, 3, 2, 1, 0, 3, 2, 1]) ∧
  decode .alpha [0x64, 0x3D, 0x68, 0x8F, 0xAC, 0x68, 0x8F, 0xAC] =
    .ok (.eacA8 ⟨100, 3, 13⟩ #v[3, 2, 1, 0, 7, 6, 5, 4, 3, 2, 1, 0, 7, 6, 5, 4])

/-! ### Tables and helpers -/

/-- R128: the four properties of the bit-extension helpers, with the strict monotonicity the rule adds. That the
result is in 0..255 is its type. -/
def Obligations.ExtendersMapTheirRangeMonotonically : Prop :=
  (extend4 0 = 0 ∧ extend4 15 = 255 ∧ ∀ x y : BitVec 4, x < y → extend4 x < extend4 y) ∧
  (extend5 0 = 0 ∧ extend5 31 = 255 ∧ ∀ x y : BitVec 5, x < y → extend5 x < extend5 y) ∧
  (extend6 0 = 0 ∧ extend6 63 = 255 ∧ ∀ x y : BitVec 6, x < y → extend6 x < extend6 y) ∧
  (extend7 0 = 0 ∧ extend7 127 = 255 ∧ ∀ x y : BitVec 7, x < y → extend7 x < extend7 y)

/-- R124 to R127: the values of the helpers as quotients and remainders. -/
def Obligations.ExtendersReplicateTheTopBits : Prop :=
  (∀ x : BitVec 4, nat (extend4 x).toNat = rep4 x) ∧ (∀ x : BitVec 5, nat (extend5 x).toNat = rep5 (nat x.toNat)) ∧
  (∀ x : BitVec 6, nat (extend6 x).toNat = rep6 x) ∧ (∀ x : BitVec 7, nat (extend7 x).toNat = rep7 x)

/-- R129: the clamp is the value itself in range, else the nearer bound (the spec's decision D15). -/
def Obligations.ClampSaturatesToTheNearerBound : Prop :=
  ∀ v lo hi : Int, lo ≤ hi →
    (v < lo → clamp v lo hi = lo) ∧ (hi < v → clamp v lo hi = hi) ∧ (lo ≤ v → v ≤ hi → clamp v lo hi = v)

/-- R121: row 0 of the intensity-modifier table is the source's in every machine, whatever `P_IMOD` is. -/
def Obligations.IntensityRowZeroIsTheSources : Prop :=
  ∀ p : Params, imod p 0 0 = 2 ∧ imod p 0 1 = 8 ∧ imod p 0 2 = -2 ∧ imod p 0 3 = -8

/-- R291: with the default tables (the spec's own supply, log 6), the operand of the clamp in the alpha rule and in the
Individual and Differential rule stays in the stated range. -/
def Obligations.DefaultTableOperandsStayInRange : Prop :=
  (∀ (base : BitVec 8) (mult t : BitVec 4) (x : BitVec 3),
    -225 ≤ nat base.toNat + amod defaultParams t x * nat mult.toNat ∧
    nat base.toNat + amod defaultParams t x * nat mult.toNat ≤ 465) ∧
  (∀ (base : Byte) (t : BitVec 3) (x : BitVec 2),
    -183 ≤ nat base.toNat + imod defaultParams t x ∧ nat base.toNat + imod defaultParams t x ≤ 438)

/-! ### The inner units -/

/-- R160, R162: `CLASSIFY` writes the mode that the chain of tests gives, and the three sums, computed without
wrap-around; nothing else changes. That the sums are written also when the diff bit is clear is the model's (log 15). -/
def Obligations.ClassifyWritesTheModeOfTheChain : Prop :=
  ∀ (b0 b1 b2 b3 : Byte) (s : State), ∃ t, exec (.classify b0 b1 b2 b3) s = .next t ∧ OutsideCoreUnchanged s t ∧
    t.core = { s.core with mode := t.core.mode, sums := t.core.sums } ∧
    t.core.sums = ⟨sumOfByte b0, sumOfByte b1, sumOfByte b2⟩ ∧
    t.core.mode =
      (if bit b3 1 = 0 then .individual
       else if sumOfByte b0 < 0 ∨ 31 < sumOfByte b0 then .t
       else if sumOfByte b1 < 0 ∨ 31 < sumOfByte b1 then .h
       else if sumOfByte b2 < 0 ∨ 31 < sumOfByte b2 then .planar
       else .differential)

/-- R150: `IDX2` writes entry `k` from bit `k mod 8` of `B5` or `B4` and of `B7` or `B6`, and nothing else. -/
def Obligations.Idx2PairsTheBitsOfEachPixel : Prop :=
  ∀ (b4 b5 b6 b7 : Byte) (s : State), ∃ t, exec (.idx2 b4 b5 b6 b7) s = .next t ∧ OutsideCoreUnchanged s t ∧
    t.core = { s.core with idx2 := t.core.idx2 } ∧
    ∀ k : Fin 16, t.core.idx2[k].toNat =
      (if k.val < 8 then bit b5 k.val else bit b4 (k.val - 8)) * 2 +
      (if k.val < 8 then bit b7 k.val else bit b6 (k.val - 8))

/-- R152: `IDX3` writes entry `k` from three bits of the 24-bit group, the first index in the top bits (the spec's
decision D11), and nothing else. -/
def Obligations.Idx3CutsTheGroupsFromTheTop : Prop :=
  ∀ (a2 a3 a4 a5 a6 a7 : Byte) (s : State), ∃ t, exec (.idx3 a2 a3 a4 a5 a6 a7) s = .next t ∧
    OutsideCoreUnchanged s t ∧ t.core = { s.core with idx3 := t.core.idx3 } ∧
    ∀ k : Fin 16, t.core.idx3[k].toNat =
      (if k.val < 8 then (a2.toNat * 65536 + a3.toNat * 256 + a4.toNat) / 8 ^ (7 - k.val) % 8
       else (a5.toNat * 65536 + a6.toNat * 256 + a7.toNat) / 8 ^ (15 - k.val) % 8)

/-! ### The color bodies and the alpha decoder -/

/-- R170, R172, R175, R176: the Individual body runs on every operand, in every state; what it writes and that nothing
else changes. That it writes the index table of its own bytes and keeps its working values is the model's (log 15). -/
def Obligations.IndividualBodyRendersItsSubblocks : Prop :=
  ∀ (f : IndividualFields) (idx : Idx2Table) (s : State), ∃ t, exec (.etc2I f idx) s = .next t ∧
    OutsideCoreUnchanged s t ∧
    t.core = { s.core with
      idx2 := idx, payload := .individual f, base1 := t.core.base1, base2 := t.core.base2, px := t.core.px } ∧
    ColorIs t.core.base1 (rep4 f.c1R) (rep4 f.c1G) (rep4 f.c1B) ∧
    ColorIs t.core.base2 (rep4 f.c2R) (rep4 f.c2G) (rep4 f.c2B) ∧
    ∀ i j : Fin 4, SubblockPixel s.params f.flip f.tbl1 f.tbl2 idx (rep4 f.c1R) (rep4 f.c1G) (rep4 f.c1B)
      (rep4 f.c2R) (rep4 f.c2G) (rep4 f.c2B) i j (at_ t.core.px i j)

/-- R171, R173, R175, R176: the Differential body runs on every block of its format (no sum outside 0..31), in every
state; what it writes and that nothing else changes. That it writes the index table of its own bytes and keeps its
working values is the model's (log 15). -/
def Obligations.DifferentialBodyRendersItsSubblocks : Prop :=
  ∀ (f : DifferentialFields) (idx : Idx2Table) (s : State), f.wf = true →
    ∃ t, exec (.etc2D f idx) s = .next t ∧ OutsideCoreUnchanged s t ∧
    t.core = { s.core with
      idx2 := idx, payload := .differential f, base1 := t.core.base1, base2 := t.core.base2, px := t.core.px } ∧
    ColorIs t.core.base1 (rep5 (nat f.bR.toNat)) (rep5 (nat f.bG.toNat)) (rep5 (nat f.bB.toNat)) ∧
    ColorIs t.core.base2 (rep5 (nat f.bR.toNat + delta f.dR)) (rep5 (nat f.bG.toNat + delta f.dG))
      (rep5 (nat f.bB.toNat + delta f.dB)) ∧
    ∀ i j : Fin 4, SubblockPixel s.params f.flip f.tbl1 f.tbl2 idx
      (rep5 (nat f.bR.toNat)) (rep5 (nat f.bG.toNat)) (rep5 (nat f.bB.toNat))
      (rep5 (nat f.bR.toNat + delta f.dR)) (rep5 (nat f.bG.toNat + delta f.dG)) (rep5 (nat f.bB.toNat + delta f.dB))
      i j (at_ t.core.px i j)

/-- R190 to R192: the T body runs on every operand, in every state; what it writes and that nothing else changes. The
order of `da` and `db` is the spec's decision D10; the working values it keeps are the model's (log 15). -/
def Obligations.TBodyPaintsByIndex : Prop :=
  ∀ (f : TFields) (idx : Idx2Table) (s : State), ∃ t, exec (.etc2T f idx) s = .next t ∧ OutsideCoreUnchanged s t ∧
    t.core = { s.core with
      idx2 := idx, payload := .t f, base1 := t.core.base1, base2 := t.core.base2, di := t.core.di, d := t.core.d,
      paint := t.core.paint, px := t.core.px } ∧
    ColorIs t.core.base1 (rep4 f.c1R) (rep4 f.c1G) (rep4 f.c1B) ∧
    ColorIs t.core.base2 (rep4 f.c2R) (rep4 f.c2G) (rep4 f.c2B) ∧
    t.core.di.toNat = f.da.toNat * 2 + f.db.toNat ∧ nat t.core.d = magnitude (f.da.toNat * 2 + f.db.toNat) ∧
    ∀ i j : Fin 4, PixelIs (at_ t.core.px i j)
      (tChannel (rep4 f.c1R) (rep4 f.c2R) (magnitude (f.da.toNat * 2 + f.db.toNat)) (idxAt idx i j))
      (tChannel (rep4 f.c1G) (rep4 f.c2G) (magnitude (f.da.toNat * 2 + f.db.toNat)) (idxAt idx i j))
      (tChannel (rep4 f.c1B) (rep4 f.c2B) (magnitude (f.da.toNat * 2 + f.db.toNat)) (idxAt idx i j)) 255

/-- R196 to R198: the H body runs on every operand, in every state; what it writes and that nothing else changes. The
order of `da`, `db` and `ord` is the spec's decision D10; the working values it keeps are the model's (log 15). -/
def Obligations.HBodyPaintsByIndexAndOrder : Prop :=
  ∀ (f : HFields) (idx : Idx2Table) (s : State), ∃ t, exec (.etc2H f idx) s = .next t ∧ OutsideCoreUnchanged s t ∧
    t.core = { s.core with
      idx2 := idx, payload := .h f, base1 := t.core.base1, base2 := t.core.base2, ord := t.core.ord,
      di := t.core.di, d := t.core.d, paint := t.core.paint, px := t.core.px } ∧
    ColorIs t.core.base1 (rep4 f.c1R) (rep4 f.c1G) (rep4 f.c1B) ∧
    ColorIs t.core.base2 (rep4 f.c2R) (rep4 f.c2G) (rep4 f.c2B) ∧
    t.core.ord.toNat = hOrd f ∧ t.core.di.toNat = f.da.toNat * 4 + f.db.toNat * 2 + hOrd f ∧
    nat t.core.d = magnitude (f.da.toNat * 4 + f.db.toNat * 2 + hOrd f) ∧
    ∀ i j : Fin 4, PixelIs (at_ t.core.px i j)
      (hChannel (rep4 f.c1R) (rep4 f.c2R) (magnitude (f.da.toNat * 4 + f.db.toNat * 2 + hOrd f)) (idxAt idx i j))
      (hChannel (rep4 f.c1G) (rep4 f.c2G) (magnitude (f.da.toNat * 4 + f.db.toNat * 2 + hOrd f)) (idxAt idx i j))
      (hChannel (rep4 f.c1B) (rep4 f.c2B) (magnitude (f.da.toNat * 4 + f.db.toNat * 2 + hOrd f)) (idxAt idx i j)) 255

/-- R197: comparing the packed 8-bit base colors gives the same ordering bit as comparing the 4-bit fields as 12-bit
numbers. -/
def Obligations.OrderBitComparesTheFields : Prop :=
  ∀ r1 g1 b1 r2 g2 b2 : BitVec 4,
    orderBit (color4 r1 g1 b1) (color4 r2 g2 b2) =
      if (r1 ++ g1 ++ b1).toNat ≥ (r2 ++ g2 ++ b2).toNat then 1 else 0

/-- R210 to R212: the Planar body runs on every operand, in every state; what it writes and that nothing else changes,
`IDX2` among the registers left alone. The floor shift is the spec's decision D12; the working values it keeps are the
model's (log 15). -/
def Obligations.PlanarBodyInterpolatesItsCorners : Prop :=
  ∀ (f : PlanarFields) (s : State), ∃ t, exec (.etc2P f) s = .next t ∧ OutsideCoreUnchanged s t ∧
    t.core = { s.core with
      payload := .planar f, cornerO := t.core.cornerO, cornerH := t.core.cornerH, cornerV := t.core.cornerV,
      px := t.core.px } ∧
    ColorIs t.core.cornerO (rep6 f.oR) (rep7 f.oG) (rep6 f.oB) ∧
    ColorIs t.core.cornerH (rep6 f.hR) (rep7 f.hG) (rep6 f.hB) ∧
    ColorIs t.core.cornerV (rep6 f.vR) (rep7 f.vG) (rep6 f.vB) ∧
    ∀ i j : Fin 4, PixelIs (at_ t.core.px i j) (planar (rep6 f.oR) (rep6 f.hR) (rep6 f.vR) i j)
      (planar (rep7 f.oG) (rep7 f.hG) (rep7 f.vG) i j) (planar (rep6 f.oB) (rep6 f.hB) (rep6 f.vB) i j) 255

/-- R212: a Planar channel is the format's formula, the sum of the three weighted corners shifted once (the equality
that the rule derives from its decision D12). -/
def Obligations.PlanarChannelIsTheFormatsFormula : Prop :=
  ∀ (o h v : Byte) (i j : Fin 4),
    nat (planarChannel o h v i.val j.val).toNat =
      sat ((nat i.val * (nat h.toNat - nat o.toNat) + nat j.val * (nat v.toNat - nat o.toNat) + 4 * nat o.toNat + 2) / 4)

/-- R213 (c), (d): pixel `(0, 0)` of a Planar block is `O`, and three identical corners give a flat block. -/
def Obligations.PlanarOriginAndFlatBlock : Prop :=
  ∀ (f : PlanarFields) (s : State), ∃ t, exec (.etc2P f) s = .next t ∧
    PixelIs (at_ t.core.px 0 0) (rep6 f.oR) (rep7 f.oG) (rep6 f.oB) 255 ∧
    (f.hR = f.oR → f.vR = f.oR → f.hG = f.oG → f.vG = f.oG → f.hB = f.oB → f.vB = f.oB →
      ∀ i j : Fin 4, at_ t.core.px i j = at_ t.core.px 0 0)

/-- R220 to R222: the alpha decoder runs on every operand, in every state; it replaces the alpha of every pixel and
touches no color channel, and nothing else changes. That it runs on its own over the colors that an earlier transaction
left in `PX`, with the response as it was, is the model's (log 5), as are the header and `IDX3` that it keeps (log 15). -/
def Obligations.AlphaDecoderReplacesAlphaOnly : Prop :=
  ∀ (f : AlphaFields) (idx : Idx3Table) (s : State), ∃ t, exec (.eacA8 f idx) s = .next t ∧ OutsideCoreUnchanged s t ∧
    t.core = { s.core with alpha := f, idx3 := idx, px := t.core.px } ∧
    ∀ i j : Fin 4,
      (at_ t.core.px i j).r = (at_ s.core.px i j).r ∧ (at_ t.core.px i j).g = (at_ s.core.px i j).g ∧
      (at_ t.core.px i j).b = (at_ s.core.px i j).b ∧
      nat (at_ t.core.px i j).a.toNat =
        sat (nat f.base.toNat + amod s.params f.atbl (idxAt idx i j) * nat f.mult.toNat)

/-- R223 (a): a multiplier of 0 gives `base` everywhere, whatever the table, its row and the indices are. -/
def Obligations.MultiplierZeroGivesBaseEverywhere : Prop :=
  ∀ (f : AlphaFields) (idx : Idx3Table) (s : State), f.mult = 0 →
    ∃ t, exec (.eacA8 f idx) s = .next t ∧ ∀ i j : Fin 4, (at_ t.core.px i j).a = f.base

/-! ### The two core operations -/

/-- R230: `DECRGB` runs on every block, in every state. It leaves what the body that the block selects leaves, with the
request, the mode, the sums and `IDX2` written, and presents `PX` as the response, alpha 255 in every pixel; every other
register is as the body leaves it, `AB`, `IDX3` and the alpha header as they were. What it latches, leaves and keeps in
the working registers is the model's (log 15), and so is the register that holds the response (log 5). -/
def Obligations.DecrgbRespondsWithItsBody : Prop :=
  ∀ (cb : Block) (s : State), ∃ t u, exec (.decrgb cb) s = .next t ∧ exec (decodeColor cb) s = .next u ∧
    OutsideCoreUnchanged s t ∧
    t.core = { u.core with
      op := 0, cb := cb, mode := blockMode cb, sums := ⟨sumOfByte cb.b0, sumOfByte cb.b1, sumOfByte cb.b2⟩,
      idx2 := blockIdx2 cb, response := some u.core.px } ∧
    (∀ k : Fin 16, t.core.px[k].a = 255) ∧
    t.core.ab = s.core.ab ∧ t.core.idx3 = s.core.idx3 ∧ t.core.alpha = s.core.alpha

/-- R231: `DECRGBA` runs on every pair of blocks, in every state. The colors of its response are those of `DECRGB`, the
alphas those of the alpha decoder; it leaves what the alpha decoder leaves after `DECRGB`, with its own request and
response. The pixels are the rule's; the last clause, what is latched and what the working registers keep, is the model's
(log 15), and so is the register that holds the response (log 5). -/
def Obligations.DecrgbaJoinsColorAndAlpha : Prop :=
  ∀ (ab cb : Block) (s : State), ∃ t u v w, exec (.decrgba ab cb) s = .next t ∧ exec (.decrgb cb) s = .next u ∧
    exec (decodeAlpha ab) s = .next v ∧ exec (decodeAlpha ab) u = .next w ∧ OutsideCoreUnchanged s t ∧
    (∀ k : Fin 16, t.core.px[k] = ⟨u.core.px[k].r, u.core.px[k].g, u.core.px[k].b, v.core.px[k].a⟩) ∧
    t.core = { w.core with op := 1, ab := ab, response := some t.core.px }

/-- R20, R232 (a): the response depends on the request and the configuration alone, whatever the registers held, which
instance serves it, and whatever came before; `DECRGB`'s does not depend on any alpha block. -/
def Obligations.ResponseIsAFunctionOfTheRequest : Prop :=
  ∀ (ab cb : Block) (s s' : State), s'.params.imodRows = s.params.imodRows → s'.params.amodRows = s.params.amodRows →
    s'.params.legacyNonflipBase1 = s.params.legacyNonflipBase1 →
    (∃ t t' r, exec (.decrgb cb) s = .next t ∧ exec (.decrgb cb) s' = .next t' ∧
      t.core.response = some r ∧ t'.core.response = some r) ∧
    (∃ t t' r, exec (.decrgba ab cb) s = .next t ∧ exec (.decrgba ab cb) s' = .next t' ∧
      t.core.response = some r ∧ t'.core.response = some r)

/-- R172, the source's scenario: the all-zero block gives `(2, 2, 2, 255)` everywhere, for every value of the
parameters. -/
def Obligations.AllZeroBlockIsTwoTwoTwo : Prop :=
  ∀ s : State, ∃ t, exec (.decrgb ⟨0, 0, 0, 0, 0, 0, 0, 0⟩) s = .next t ∧ ∀ k : Fin 16, t.core.px[k] = ⟨2, 2, 2, 255⟩

/-- R29, R260: every instruction runs to a next state, raises nothing, and writes no register outside the core that
serves it, no byte of a buffer and no parameter. -/
def Obligations.EveryInstructionRunsInItsOwnCore : Prop :=
  ∀ (i : Instr) (s : State), ∃ t, exec i s = .next t ∧ OutsideCoreUnchanged s t

/-- R22 (the latching and the response are the model's, logs 5 and 15): no instruction but the two core operations
writes `OP`, `CB`, `AB` or the response. -/
def Obligations.UnitsLeaveTheRequestAlone : Prop :=
  ∀ (i : Instr) (s t : State), i.select ≠ .decrgb → i.select ≠ .decrgba → exec i s = .next t →
    t.core.op = s.core.op ∧ t.core.cb = s.core.cb ∧ t.core.ab = s.core.ab ∧ t.core.response = s.core.response

/-! ### Reset and the step -/

/-- R280 (the spec's decision D18): after reset the core is idle, holds no request and owes no response, no call waits
or runs and none has returned, and the tables hold their constant contents: rows 1 to 7 of `IMOD` and all of `AMOD` the
values that R121 and R122 print, which are the spec's own supply (GK1, GK2; log 6). -/
def Obligations.ResetIsIdleWithItsTables : Prop :=
  State.reset.requests = [] ∧ State.reset.core.response = none ∧ State.reset.otherCores = [] ∧
  State.reset.call = none ∧ State.reset.walk = none ∧ State.reset.status = none ∧
  State.reset.dstCut = false ∧ State.reset.otherWalkers = [] ∧
  State.reset.params = defaultParams ∧ distTable.toList = [3, 6, 11, 16, 23, 32, 41, 64] ∧
  State.reset.params.imodRows.toList.map Vector.toList =
    [[5, 17, -5, -17], [9, 29, -9, -29], [13, 42, -13, -42], [18, 60, -18, -60], [24, 80, -24, -80],
     [33, 106, -33, -106], [47, 183, -47, -183]] ∧
  State.reset.params.amodRows.toList.map Vector.toList =
    [[-3, -6, -9, -15, 2, 5, 8, 14], [-3, -7, -10, -13, 2, 6, 9, 12], [-2, -5, -8, -13, 1, 4, 7, 12],
     [-2, -4, -6, -13, 1, 3, 5, 12], [-3, -6, -8, -12, 2, 5, 7, 11], [-3, -7, -9, -11, 2, 6, 8, 10],
     [-4, -7, -8, -11, 3, 6, 7, 10], [-3, -5, -8, -11, 2, 4, 7, 10], [-2, -6, -8, -10, 1, 5, 7, 9],
     [-2, -5, -8, -10, 1, 4, 7, 9], [-2, -4, -8, -10, 1, 3, 7, 9], [-2, -5, -7, -10, 1, 4, 6, 9],
     [-3, -4, -7, -10, 2, 3, 6, 9], [-1, -2, -3, -10, 0, 1, 2, 9], [-4, -6, -8, -9, 3, 5, 7, 8],
     [-3, -5, -7, -9, 2, 4, 6, 8]] ∧
  State.reset.params.legacyNonflipBase1 = false ∧ State.reset.params.addrW = none ∧ State.reset.params.latency = none

/-- The invariant holds after reset, whose two buffers are the model's choice (log 8). -/
def Obligations.InvariantHoldsAtReset : Prop := Inv State.reset

/-- Every step keeps the invariant: the buffers stay in canonical form, and a running call stays inside its grid with
its cursor where R243 says. -/
def Obligations.StepKeepsTheInvariant : Prop := ∀ s t : State, Inv s → step s = .next t → Inv t

/-- R265: no step faults, in any state with the invariant. -/
def Obligations.InvariantStatesNeverFault : Prop := ∀ s : State, Inv s → StepSafe s

/-- R80, R241 (logs 11 and 17): when every request has its length, the one thing a step refuses is a call that does
not fit the address width. -/
def Obligations.OnlyAnUnfitCallIsRefused : Prop :=
  ∀ (s : State) (x : Refusal), RequestsOk s → step s = .refused x →
    ∃ c, s.call = some c ∧ x = .addressWidth (s.params.addrW.getD 0) (srcNeed c) (dstNeed c) ∧
      ¬ (fitsAddr s.params.addrW (srcNeed c) = true ∧ fitsAddr s.params.addrW (dstNeed c) = true)

/-- R22, R33, R35: no step writes the source buffer or a table, none changes the size of the destination, and none
touches another walker or its buffers (R250); and without a running call, or in the step that serves a presented request
(which comes before the walk by the model's choice, log 4), no step writes the destination. -/
def Obligations.StepWritesOnlyTheDestinationOfAWalk : Prop :=
  ∀ s t : State, step s = .next t →
    t.params = s.params ∧ t.src = s.src ∧ t.dst.len = s.dst.len ∧ t.dstCut = s.dstCut ∧
    t.otherWalkers = s.otherWalkers ∧
    (s.requests ≠ [] ∨ s.walk = none → t.dst = s.dst ∧ ∀ a, t.dst.read a = s.dst.read a)

/-- A step serves the oldest request: it is `exec` of what the decoder reads, with the request taken from the queue
(log 4). -/
def Obligations.StepRunsTheDecodedRequest : Prop :=
  ∀ (s : State) (r : Request) (rest : List Request) (i : Instr), s.requests = r :: rest →
    decode r.sel r.bytes = .ok i → step s = exec i { s with requests := rest }

/-- R273: with nothing presented and nothing running, the core is idle: the step leaves the state as it is (the model's
reading of idle, log 14). -/
def Obligations.IdleStepChangesNothing : Prop :=
  ∀ s : State, s.requests = [] → s.walk = none → s.call = none → step s = .next s

/-- R250, R270: whatever the registers and the number of the core instances, and whatever `P_LATENCY`, any number of
steps gives the same buffers, walker state and status, and stops for the same reason. -/
def Obligations.CoresAndLatencyDoNotShowInARun : Prop :=
  ∀ (n : Nat) (s s' : State), SameButCores s s' →
    SameOutcome (Host.Core.run Sys2Proof.core n s) (Host.Core.run Sys2Proof.core n s')

/-! ### The walker -/

/-- R241: the values derived from a call. The block counts are the quotients rounded up. -/
def Obligations.DerivedValuesOfACall : Prop :=
  ∀ c : Call,
    (c.width.toNat ≤ 4 * blockCount c.width ∧ 4 * blockCount c.width < c.width.toNat + 4) ∧
    (c.height.toNat ≤ 4 * blockCount c.height ∧ 4 * blockCount c.height < c.height.toNat + 4) ∧
    pitchOf c.width = max (c.width.toNat * 4) 16 ∧
    srcNeed c = blockCount c.width * blockCount c.height * (if c.variant = 0 then 8 else 16) ∧
    dstMin c = pitchOf c.width * c.height.toNat ∧
    (blockCount c.width * blockCount c.height = 0 → dstNeed c = 0) ∧
    (blockCount c.width * blockCount c.height ≠ 0 →
      dstNeed c = (4 * blockCount c.height - 1) * pitchOf c.width + 16 * blockCount c.width)

/-- R58: `DST_NEED` equals the source's threshold exactly for block-aligned images, and is above it otherwise. -/
def Obligations.DestinationNeedAgainstThreshold : Prop :=
  ∀ c : Call, 1 ≤ c.width.toNat → 1 ≤ c.height.toNat →
    (c.height.toNat % 4 = 0 ∧ (c.width.toNat % 4 = 0 ∨ c.width.toNat ≤ 4) → dstNeed c = dstMin c) ∧
    (¬ (c.height.toNat % 4 = 0 ∧ (c.width.toNat % 4 = 0 ∨ c.width.toNat ≤ 4)) → dstMin c < dstNeed c)

/-- R58: the bytes that the footprints of a call cover are exactly those below `DST_NEED`. -/
def Obligations.FootprintsCoverBelowDestinationNeed : Prop :=
  ∀ (c : Call) (a : Nat), a < dstNeed c ↔
    ∃ bx bY, bx < blockCount c.width ∧ bY < blockCount c.height ∧ ∃ i j ch : Fin 4, a = byteAddr c bx bY i j ch

/-- R63: the footprints of different blocks are disjoint exactly when the width is a multiple of 4 or at most 4. -/
def Obligations.FootprintsDisjointExactlyWhenAligned : Prop :=
  ∀ c : Call, 1 ≤ c.height.toNat →
    ((∀ bx bY bx' bY', bx < blockCount c.width → bY < blockCount c.height → bx' < blockCount c.width →
        bY' < blockCount c.height → (bx, bY) ≠ (bx', bY') →
        ∀ i j ch i' j' ch' : Fin 4, byteAddr c bx bY i j ch ≠ byteAddr c bx' bY' i' j' ch') ↔
      (c.width.toNat % 4 = 0 ∨ c.width.toNat ≤ 4))

/-- R261 to R264, R267 (order, information and the third error are the spec's decision D17): a call whose check fails
ends with the first error in the order of the codes and the two lengths compared; nothing is read, written or kept,
and the machine is ready for the next call. -/
def Obligations.FailedCallReportsTheFirstError : Prop :=
  ∀ (s : State) (c : Call), CallWaits s c →
    (s.src.len < srcNeed c →
      step s = .next { s with call := none, status := some (.error (.sourceTooShort s.src.len (srcNeed c))) }) ∧
    (srcNeed c ≤ s.src.len → s.dst.len < dstMin c →
      step s = .next { s with call := none, status := some (.error (.destinationTooSmall s.dst.len (dstMin c))) }) ∧
    (srcNeed c ≤ s.src.len → dstMin c ≤ s.dst.len → s.dst.len < dstNeed c →
      step s = .next { s with call := none, status := some (.error (.accessOutOfRange s.dst.len (dstNeed c))) })

/-- R241 (decision D23; that fitting means being below `2^w`, and that the refusal comes before the checks, is the
model's, log 11): a call whose sizes do not fit the address width is refused. -/
def Obligations.UnfitCallIsRefused : Prop :=
  ∀ (s : State) (c : Call) (w : Nat), s.requests = [] → s.walk = none → s.call = some c → s.params.addrW = some w →
    (2 ^ w ≤ srcNeed c ∨ 2 ^ w ≤ dstNeed c) → step s = .refused (.addressWidth w (srcNeed c) (dstNeed c))

/-- R247 (decision D34): a call without blocks that passes the checks returns `OK`, in the model in the step that
takes it up (log 19); nothing is read or written. -/
def Obligations.CallWithoutBlocksReturnsOk : Prop :=
  ∀ (s : State) (c : Call), CallWaits s c → ChecksPass s c → (c.width = 0 ∨ c.height = 0) →
    step s = .next { s with call := none, status := some .ok }

/-- R36, R244 (that the start is a step of its own is the model's, log 19): the walk of a call that passes its checks
begins at block `(0, 0)` with `sp = 0`; nothing is read or written yet. -/
def Obligations.WalkBeginsAtTheFirstBlock : Prop :=
  ∀ (s : State) (c : Call), CallWaits s c → ChecksPass s c → c.width ≠ 0 → c.height ≠ 0 →
    step s = .next { s with
      call := none, status := none,
      walk := some ⟨c, blockCount c.width, blockCount c.height, pitchOf c.width, 0, 0, 0⟩ }

/-- R54, R243 to R245: one step of the walk in a state with the invariant. The unit at the cursor is decoded as the core
operation of the variant, the 64 bytes of the footprint hold its pixels, every other byte of `DST` is as before, and the
coordinates and the cursor move on in row-major order. That one step of the machine is one block is the model's (log 4),
and so is the status `none` while the walk goes on (log 19). -/
def Obligations.WalkStepDecodesOneBlock : Prop :=
  ∀ (s : State) (w : Walk), Inv s → s.requests = [] → s.walk = some w →
    ∃ t u, step s = .next t ∧ exec (unitInstr w.call s.src w.bx w.bY) s = .next u ∧
      t.params = s.params ∧ t.src = s.src ∧ t.requests = [] ∧ t.call = s.call ∧ t.dst.len = s.dst.len ∧
      (∀ i j ch : Fin 4, t.dst.read (byteAddr w.call w.bx w.bY i j ch) = channelOf (at_ u.core.px i j) ch) ∧
      (∀ a, (∀ i j ch : Fin 4, a ≠ byteAddr w.call w.bx w.bY i j ch) → t.dst.read a = s.dst.read a) ∧
      (w.bx + 1 < blockCount w.call.width →
        t.walk = some { w with bx := w.bx + 1, sp := w.sp + unitSize w.call.variant } ∧ t.status = none) ∧
      (w.bx + 1 = blockCount w.call.width → w.bY + 1 < blockCount w.call.height →
        t.walk = some { w with bx := 0, bY := w.bY + 1, sp := w.sp + unitSize w.call.variant } ∧ t.status = none) ∧
      (w.bx + 1 = blockCount w.call.width → w.bY + 1 = blockCount w.call.height →
        t.walk = none ∧ t.status = some .ok)

/-- The registers after one step of the walk (the model's choice, log 12): the core that served is owed no response
and goes to the end of the line, the others are as before. -/
def Obligations.CoresTakeTurnsInTheWalk : Prop :=
  ∀ (s : State) (w : Walk), Inv s → s.requests = [] → s.walk = some w →
    ∃ t u, step s = .next t ∧ exec (unitInstr w.call s.src w.bx w.bY) s = .next u ∧
      t.core :: t.otherCores = s.otherCores ++ [{ u.core with response := none }]

/-- R244, R248: a call that passes its checks returns `OK` after exactly one step for its start (log 19) and one for
each block, and every byte at or above `DST_NEED` and the whole source are as before. -/
def Obligations.CallReturnsOkAfterEveryBlock : Prop :=
  ∀ (s : State) (c : Call), CallWaits s c → ChecksPass s c →
    ∃ t, Host.Core.run Sys2Proof.core (1 + blockCount c.width * blockCount c.height) s = .next t ∧
      t.status = some .ok ∧ t.walk = none ∧ t.call = none ∧ t.requests = [] ∧ t.params = s.params ∧ t.src = s.src ∧
      t.dst.len = s.dst.len ∧ ∀ a, dstNeed c ≤ a → t.dst.read a = s.dst.read a

/-- R64, R65 (b), R248 (with the steps of log 19): the destination of a finished call. Every byte of every footprint
holds what its block decodes to, unless a block later in row-major order covers it: the later block's byte stands. -/
def Obligations.LaterBlockStandsInTheDestination : Prop :=
  ∀ (s : State) (c : Call), CallWaits s c → ChecksPass s c →
    ∃ t, Host.Core.run Sys2Proof.core (1 + blockCount c.width * blockCount c.height) s = .next t ∧
      ∀ bx bY, bx < blockCount c.width → bY < blockCount c.height → ∀ i j ch : Fin 4,
        (∀ bx' bY', bx' < blockCount c.width → bY' < blockCount c.height →
          bY * blockCount c.width + bx < bY' * blockCount c.width + bx' →
          ∀ i' j' ch' : Fin 4, byteAddr c bx' bY' i' j' ch' ≠ byteAddr c bx bY i j ch) →
        t.dst.read (byteAddr c bx bY i j ch) = channelOf (at_ (pxAfter (unitInstr c s.src bx bY) s) i j) ch

/-! ### The buffers -/

/-- R50: a buffer in canonical form is its bytes: two of one length that read alike everywhere are equal. -/
def Obligations.CanonicalBuffersAreTheirBytes : Prop :=
  ∀ m m' : Memory, m.wf → m'.wf → m.len = m'.len → (∀ a, m.read a = m'.read a) → m = m'

/-- R14, R50: `MemRead` is defined exactly when the bytes lie in the buffer and gives them lowest offset first;
`MemWrite` is defined exactly when every byte lies in the buffer, changes no byte that it does not name, keeps the
canonical form and the length, and stores every byte: an offset reads the last byte of the list that names it. -/
def Obligations.AccessesStayInsideTheBuffer : Prop :=
  ∀ (m : Memory) (a n : Nat) (cs : List Host.Cell), m.wf →
    (a + n ≤ m.len → memRead m a n = some ((List.range n).map fun i => m.read (a + i))) ∧
    (m.len < a + n → memRead m a n = none) ∧
    ((∃ c ∈ cs, m.len ≤ c.1) → memWrite m cs = none) ∧
    ((∀ c ∈ cs, c.1 < m.len) → ∃ m', memWrite m cs = some m' ∧ m'.wf ∧ m'.len = m.len ∧
      ∀ x, (∀ c ∈ cs, c.1 ≠ x) → m'.read x = m.read x) ∧
    (∀ (pre post : List Host.Cell) (c : Host.Cell), (∀ x ∈ pre ++ c :: post, x.1 < m.len) →
      (∀ x ∈ post, x.1 ≠ c.1) → ∃ m', memWrite m (pre ++ c :: post) = some m' ∧ m'.read c.1 = c.2)

/-! ### The tables -/

/-- R120, R121, R122: a look-up reads the entry at its row and column in the parameters of the state, row `t` of `IMOD`
standing at place `t - 1` of the rows 1 to 7 that are a parameter; the column is the pixel index itself; and the eight
distances. -/
def Obligations.TableLookupsReadTheirEntry : Prop :=
  ∀ p : Params,
    (∀ (t : Fin 7) (x : Fin 4), imod p (BitVec.ofNat 3 (t.val + 1)) (BitVec.ofNat 2 x.val) = (p.imodRows[t])[x]) ∧
    (∀ (t : Fin 16) (x : Fin 8), amod p (BitVec.ofNat 4 t.val) (BitVec.ofNat 3 x.val) = (p.amodRows[t])[x]) ∧
    (∀ n : Fin 8, nat (dist (BitVec.ofNat 3 n.val)) = magnitude n.val)

/-! ### Reset, and what the caller does between two steps -/

/-- R270, R280, R36: for every value of the parameters, every number of core instances and whatever buffers the caller
has, all instances leave reset alike, none is owed or holds anything, and no call exists; the reset state of the machine
is this one at the defaults of R6, with the buffers of length 0 that are the model's choice (log 8). -/
def Obligations.AllCoresLeaveResetAlike : Prop :=
  (∀ (p : Params) (n : Nat) (src dst : Memory), 1 ≤ n →
    let s := State.resetWith p n src dst
    s.core :: s.otherCores = List.replicate n Core.reset ∧ (∀ c ∈ s.core :: s.otherCores, c.response = none) ∧
      s.requests = [] ∧ s.call = none ∧ s.walk = none ∧ s.status = none ∧ s.otherWalkers = [] ∧
      s.params = p ∧ s.src = src ∧ s.dst = dst ∧ s.visibleDst = some dst) ∧
  State.reset = State.resetWith defaultParams 1 ⟨0, []⟩ ⟨0, []⟩

/-- R36, R280, R282: reset of a machine in any state. No buffer and no table changes, every core instance is as reset
leaves it, no request is held, no response owed and no call exists. What an observer may see of a `DST` stays as it was
too: nothing where a call had been made and not returned, then as before (R65 (c), U6; that it is hidden, and not shown
with some value, is the model's, log 10). -/
def Obligations.ResetKeepsTheBuffersAndCutsTheCall : Prop :=
  ∀ s : State,
    let t := s.applyReset
    t.params = s.params ∧ t.src = s.src ∧ t.dst = s.dst ∧
    t.core :: t.otherCores = (s.core :: s.otherCores).map (fun _ => Core.reset) ∧
    t.requests = [] ∧ t.core.response = none ∧ t.call = none ∧ t.walk = none ∧ t.status = none ∧
    t.visibleDst = s.visibleDst ∧ (s.call ≠ none ∨ s.walk ≠ none → t.visibleDst = none) ∧
    (s.call = none → s.walk = none → s.dstCut = false → t.visibleDst = some s.dst) ∧
    t.otherWalkers.length = s.otherWalkers.length ∧
    ∀ (k : Nat) (u : Walker), s.otherWalkers[k]? = some u → ∃ v, t.otherWalkers[k]? = some v ∧
      v.src = u.src ∧ v.dst = u.dst ∧ v.call = none ∧ v.walk = none ∧ v.status = none ∧ v.visibleDst = u.visibleDst

/-- R65, R240, R249 (what a call made before the last one has returned meets is the model's, logs 10, 13 and 19): a free
walker takes the call with the buffers that come with it, and nothing else changes; a walker whose call has not returned
keeps that call and its buffers, and the new call waits with its own buffers at the end of the line. -/
def Obligations.NewCallLeavesARunningCallAlone : Prop :=
  ∀ (s : State) (c : Call) (src dst : Memory),
    (s.call = none → s.walk = none →
      s.makeCall c src dst = { s with src := src, dst := dst, call := some c, dstCut := false } ∧
      (s.makeCall c src dst).visibleDst = none) ∧
    (s.call ≠ none ∨ s.walk ≠ none →
      s.makeCall c src dst =
        { s with otherWalkers := s.otherWalkers ++ [⟨src, dst, some c, none, none, false⟩] })

/-- R265, R282: reset, a new request, a new call with buffers in canonical form, and the turn of another walker keep the
invariant, so that no step after them faults either. -/
def Obligations.OutsideActionsKeepTheInvariant : Prop :=
  ∀ s : State, Inv s →
    Inv s.applyReset ∧ Inv s.nextWalker ∧ (∀ r : Request, Inv (s.present r)) ∧
    ∀ (c : Call) (src dst : Memory), src.wf → dst.wf → Inv (s.makeCall c src dst)

/-- R250: two calls that run at the same time on separate buffers do not interact (that the interleaving is one of whole
steps, chosen from outside, is the model's, log 13). One step of each gives the same state in either order, but for the
registers of the core instances: the second step runs whichever came first. -/
def Obligations.CallsOnSeparateBuffersDoNotInteract : Prop :=
  ∀ (s t u : State) (v : Walker), s.requests = [] → s.otherWalkers = [v] →
    step s = .next t → step s.nextWalker = .next u →
    ∃ t' u', step t.nextWalker = .next t' ∧ step u.nextWalker = .next u' ∧ SameButCores t'.nextWalker u'

end Statements
end

