-- ==== Sys2Proof/Laws/Bits.lean ====
section
/-! SUPPORT. The laws of the encoder's bit operations: what each packs, the extractors take out again. -/

namespace Sys2Proof

/-- `gatherByte` puts `f n` at bit `n`. -/
theorem gatherByte_getLsbD (f : Nat → Bool) (n : Nat) (h : n < 8) : (gatherByte f).getLsbD n = f n := by
  unfold gatherByte
  have hn : n = 0 ∨ n = 1 ∨ n = 2 ∨ n = 3 ∨ n = 4 ∨ n = 5 ∨ n = 6 ∨ n = 7 := by omega
  clear h
  rcases hn with rfl | rfl | rfl | rfl | rfl | rfl | rfl | rfl <;>
    (generalize f 0 = a0, f 1 = a1, f 2 = a2, f 3 = a3, f 4 = a4, f 5 = a5, f 6 = a6, f 7 = a7
     revert a0 a1 a2 a3 a4 a5 a6 a7
     decide)

theorem gatherByte_self (b : Byte) : gatherByte (fun n => b.getLsbD n) = b :=
  BitVec.eq_of_getLsbD_eq fun i hi => gatherByte_getLsbD _ i hi

theorem gatherByte_congr {f g : Nat → Bool} (h : ∀ n, n < 8 → f n = g n) : gatherByte f = gatherByte g := by
  unfold gatherByte; simp [h]

theorem index2_of_bits : ∀ x : BitVec 2, index2 (x.getLsbD 1) (x.getLsbD 0) = x := by decide

theorem index2_bits : ∀ a b, (index2 a b).getLsbD 1 = a ∧ (index2 a b).getLsbD 0 = b := by decide

theorem idx2Bit_eq (v : Idx2Table) (n k : Nat) (h : k < 16) : idx2Bit v n k = v[k].getLsbD n := by
  simp [idx2Bit, List.getD, h]

/-- What `extractIdx2` gives pixel `k` (R150). -/
theorem extractIdx2_getElem (b4 b5 b6 b7 : Byte) (k : Nat) (h : k < 16) :
    (extractIdx2 b4 b5 b6 b7)[k] =
      if k < 8 then index2 (b5.getLsbD k) (b7.getLsbD k) else index2 (b4.getLsbD (k - 8)) (b6.getLsbD (k - 8)) := by
  simp [extractIdx2]

/-- The three bytes of a 24-bit group make the group again (R89). -/
theorem groupBytes_append (g : BitVec 24) :
    (g.extractLsb 23 16 ++ g.extractLsb 15 8 ++ g.extractLsb 7 0 : BitVec 24) = g := by
  apply BitVec.eq_of_getLsbD_eq
  intro i hi
  simp only [BitVec.getLsbD_append, BitVec.getLsbD_extractLsb]
  repeat' split
  · simp; intro h; omega
  · have h : 8 + (i - (7 - 0 + 1)) = i := by omega
    simp only [h]; simp; intro _; omega
  · have h : 16 + (i - (7 - 0 + 1) - (15 - 8 + 1)) = i := by omega
    simp only [h]; simp; intro _; omega

/-- Index `k` of a packed group is bits `23-3k : 21-3k` (R89, R152). -/
theorem packGroup_extract (v : Idx3Table) (k j : Nat) (hk : k < 8) :
    (packGroup v j).extractLsb' (21 - 3 * k) 3 = v.toList.getD (j + k) 0 := by
  unfold packGroup
  generalize v.toList = l
  have hc : k = 0 ∨ k = 1 ∨ k = 2 ∨ k = 3 ∨ k = 4 ∨ k = 5 ∨ k = 6 ∨ k = 7 := by omega
  apply BitVec.eq_of_getLsbD_eq
  intro i hi
  have hi' : i = 0 ∨ i = 1 ∨ i = 2 := by omega
  rcases hc with rfl | rfl | rfl | rfl | rfl | rfl | rfl | rfl <;> rcases hi' with rfl | rfl | rfl <;>
    simp only [BitVec.getLsbD_extractLsb', BitVec.getLsbD_append] <;> norm_num

/-- `ovf` of a byte put together from a base and a delta (R81, R160). -/
theorem ovf_append (x : BitVec 5) (y : BitVec 3) : ovf (x ++ y : BitVec 8) = overflows (deltaSum x y) := by
  have h1 : ∀ (m : BitVec 5) (t : BitVec 3), (m ++ t : BitVec 8).extractLsb 7 3 = m := by
    set_option maxRecDepth 20000 in decide
  have h2 : ∀ (m : BitVec 5) (t : BitVec 3), (m ++ t : BitVec 8).extractLsb 2 0 = t := by
    set_option maxRecDepth 20000 in decide
  unfold ovf byteSum
  rw [h1 x y, h2 x y]

end Sys2Proof
end

