-- ==== Sys2Proof/Laws/Memory.lean ====
section
/-! SUPPORT. The laws of the buffers: a read after a store, the canonical form kept by every operation, and one lemma
per operation that says all it can do. -/

namespace Sys2Proof.Machine

/-! ### One byte -/

theorem readCells_storeCells (cs : List Host.Cell) (a x : Nat) (b : Byte)
    (h : cs.Pairwise fun c d => c.1 < d.1) :
    readCells (storeCells cs a b) x = if x = a then b else readCells cs x := by
  induction cs with
  | nil => by_cases hb : b = unlisted <;> by_cases hx : x = a <;> simp_all [storeCells, readCells, eq_comm]
  | cons c rest ih =>
    obtain ⟨y, v⟩ := c
    have hrest := (List.pairwise_cons.mp h).2
    have hlt := (List.pairwise_cons.mp h).1
    have habsent : ∀ z, z ≤ y → readCells rest z = unlisted := by
      intro z hz
      clear ih h
      induction rest with
      | nil => rfl
      | cons d rest ih2 =>
        obtain ⟨u, w⟩ := d
        have : y < u := hlt (u, w) (by simp)
        have hne : u ≠ z := by omega
        simp only [readCells, if_neg hne]
        exact ih2 (List.pairwise_cons.mp hrest).2 fun c hc => hlt c (by simp [hc])
    by_cases h1 : a < y
    · by_cases hb : b = unlisted
      · by_cases hx : x = a
        · subst hx
          have hne : ¬ y = x := by omega
          simp [storeCells, h1, hb, readCells, hne, habsent x (by omega)]
        · simp [storeCells, h1, hb, readCells, hx]
      · by_cases hx : x = a
        · simp [storeCells, h1, hb, readCells, hx]
        · simp [storeCells, h1, hb, readCells, hx, Ne.symm hx]
    · by_cases h2 : a = y
      · subst h2
        by_cases hb : b = unlisted
        · by_cases hx : x = a
          · subst hx; simp [storeCells, hb, habsent x (le_refl _)]
          · simp [storeCells, hb, readCells, hx, Ne.symm hx]
        · by_cases hx : x = a
          · simp [storeCells, hb, readCells, hx]
          · simp [storeCells, hb, readCells, hx, Ne.symm hx]
      · have hst : storeCells ((y, v) :: rest) a b = (y, v) :: storeCells rest a b := by
          simp only [storeCells, if_neg h1, if_neg h2]
        rw [hst]
        by_cases hx : y = x
        · have hxa : ¬ x = a := by omega
          simp [readCells, hx, hxa]
        · simp [readCells, hx, ih hrest]

theorem mem_storeCells {cs : List Host.Cell} {a : Nat} {b : Byte} {c : Host.Cell} (h : c ∈ storeCells cs a b) :
    (c = (a, b) ∧ b ≠ unlisted) ∨ c ∈ cs := by
  induction cs with
  | nil => by_cases hb : b = unlisted <;> simp_all [storeCells]
  | cons d rest ih =>
    obtain ⟨y, v⟩ := d
    simp only [storeCells] at h
    split at h
    · split at h
      · exact .inr h
      · rcases List.mem_cons.mp h with h | h
        · exact .inl ⟨h, ‹_›⟩
        · exact .inr h
    · split at h
      · split at h
        · exact .inr (by simp [h])
        · rcases List.mem_cons.mp h with h | h
          · exact .inl ⟨h, ‹_›⟩
          · exact .inr (by simp [h])
      · rcases List.mem_cons.mp h with h | h
        · exact .inr (by simp [h])
        · rcases ih h with h | h
          · exact .inl h
          · exact .inr (by simp [h])

theorem storeCells_pairwise (cs : List Host.Cell) (a : Nat) (b : Byte) (h : cs.Pairwise fun c d => c.1 < d.1) :
    (storeCells cs a b).Pairwise fun c d => c.1 < d.1 := by
  induction cs with
  | nil => by_cases hb : b = unlisted <;> simp [storeCells, hb]
  | cons d rest ih =>
    obtain ⟨y, v⟩ := d
    have hrest := (List.pairwise_cons.mp h).2
    have hlt := (List.pairwise_cons.mp h).1
    simp only [storeCells]
    split
    · split
      · exact h
      · refine List.pairwise_cons.mpr ⟨?_, h⟩
        intro c hc
        rcases List.mem_cons.mp hc with rfl | hc
        · assumption
        · have := hlt c hc; simp_all; omega
    · split
      · rename_i h2
        subst h2
        split
        · exact hrest
        · exact List.pairwise_cons.mpr ⟨hlt, hrest⟩
      · refine List.pairwise_cons.mpr ⟨?_, ih hrest⟩
        intro c hc
        rcases mem_storeCells hc with ⟨rfl, _⟩ | hc
        · simp only; omega
        · exact hlt c hc

/-! ### The buffer's operations -/

@[simp] theorem Memory.store_len (m : Memory) (a : Nat) (b : Byte) : (m.store a b).len = m.len := by
  unfold Memory.store; split <;> rfl

@[simp] theorem Memory.storeAll_len (m : Memory) (cs : List Host.Cell) : (m.storeAll cs).len = m.len := by
  induction cs generalizing m with
  | nil => rfl
  | cons c rest ih => simp [Memory.storeAll, ih]

/-- A read after a store gives the value stored, and a store leaves every other offset alone. -/
theorem Memory.read_store (m : Memory) (a x : Nat) (b : Byte) (h : m.wf) (ha : a < m.len) :
    (m.store a b).read x = if x = a then b else m.read x := by
  simp only [Memory.store, if_pos ha, Memory.read]
  exact readCells_storeCells _ _ _ _ h.1

theorem Memory.store_wf (m : Memory) (a : Nat) (b : Byte) (h : m.wf) : (m.store a b).wf := by
  unfold Memory.store
  split
  · refine ⟨storeCells_pairwise _ _ _ h.1, fun c hc => ?_⟩
    rcases mem_storeCells hc with ⟨rfl, hb⟩ | hc
    · exact ⟨‹_›, hb⟩
    · exact h.2 c hc
  · exact h

theorem Memory.storeAll_wf (m : Memory) (cs : List Host.Cell) (h : m.wf) : (m.storeAll cs).wf := by
  induction cs generalizing m with
  | nil => exact h
  | cons c rest ih => exact ih _ (m.store_wf _ _ h)

/-- An offset that none of the stored bytes has reads as before. -/
theorem Memory.read_storeAll_of_notMem (m : Memory) (cs : List Host.Cell) (x : Nat) (h : m.wf)
    (hr : ∀ c ∈ cs, c.1 < m.len) (hx : ∀ c ∈ cs, c.1 ≠ x) : (m.storeAll cs).read x = m.read x := by
  induction cs generalizing m with
  | nil => rfl
  | cons c rest ih =>
    have hc : c.1 < m.len := hr c (by simp)
    rw [Memory.storeAll, ih (m.store c.1 c.2) (m.store_wf _ _ h) (fun d hd => by simpa using hr d (by simp [hd]))
      (fun d hd => hx d (by simp [hd])), m.read_store _ _ _ h hc, if_neg (Ne.symm (hx c (by simp)))]

/-- An offset that exactly one value is stored to reads as that value. -/
theorem Memory.read_storeAll_of_mem (m : Memory) (cs : List Host.Cell) (x : Nat) (b : Byte) (h : m.wf)
    (hr : ∀ c ∈ cs, c.1 < m.len) (hmem : (x, b) ∈ cs) (huniq : ∀ c ∈ cs, c.1 = x → c.2 = b) :
    (m.storeAll cs).read x = b := by
  induction cs generalizing m with
  | nil => simp at hmem
  | cons c rest ih =>
    have hc : c.1 < m.len := hr c (by simp)
    have hr' : ∀ d ∈ rest, d.1 < (m.store c.1 c.2).len := fun d hd => by simpa using hr d (by simp [hd])
    have hw := m.store_wf c.1 c.2 h
    rw [Memory.storeAll]
    by_cases hin : (x, b) ∈ rest
    · exact ih _ hw hr' hin fun d hd => huniq d (by simp [hd])
    · have hcx : c = (x, b) := by
        rcases List.mem_cons.mp hmem with h | h
        · exact h.symm
        · exact absurd h hin
      have hno : ∀ d ∈ rest, d.1 ≠ x := fun d hd he => hin (by
        have := huniq d (by simp [hd]) he
        rwa [show (x, b) = d by rw [← he, ← this]])
      rw [Memory.read_storeAll_of_notMem _ _ _ hw hr' hno, m.read_store _ _ _ h hc, hcx]
      simp

/-- All that `memRead` can do (R50). -/
theorem memRead_eq_some {m : Memory} {a n : Nat} {bs : List Byte} :
    memRead m a n = some bs ↔ a + n ≤ m.len ∧ bs = (List.range n).map fun i => m.read (a + i) := by
  unfold memRead
  split_ifs with h <;> simp [h, eq_comm]

/-- All that `memWrite` can do: every byte lies in the buffer and they are stored in order (R50). -/
theorem memWrite_eq_some {m m' : Memory} {cs : List Host.Cell} :
    memWrite m cs = some m' ↔ (∀ c ∈ cs, c.1 < m.len) ∧ m' = m.storeAll cs := by
  unfold memWrite
  have hc : cellsInRange m cs = true ↔ ∀ c ∈ cs, c.1 < m.len := by simp [cellsInRange]
  rw [← hc]
  split_ifs with h
  · simp [h, eq_comm]
  · simp [h]

theorem memWrite_wf {m m' : Memory} {cs : List Host.Cell} (h : m.wf) (hw : memWrite m cs = some m') : m'.wf := by
  obtain ⟨_, rfl⟩ := memWrite_eq_some.mp hw
  exact m.storeAll_wf cs h

theorem memWrite_len {m m' : Memory} {cs : List Host.Cell} (hw : memWrite m cs = some m') : m'.len = m.len := by
  obtain ⟨_, rfl⟩ := memWrite_eq_some.mp hw
  simp

/-- A byte that nothing is stored to reads as before. -/
theorem memWrite_read_of_notMem {m m' : Memory} {cs : List Host.Cell} {x : Nat} (h : m.wf)
    (hw : memWrite m cs = some m') (hx : ∀ c ∈ cs, c.1 ≠ x) : m'.read x = m.read x := by
  obtain ⟨hr, rfl⟩ := memWrite_eq_some.mp hw
  exact m.read_storeAll_of_notMem cs x h hr hx

theorem Memory.ofBytes_wf (bs : List Byte) : (Memory.ofBytes bs).wf :=
  Memory.storeAll_wf _ _ ⟨List.Pairwise.nil, by simp⟩

/-- The two buffers of the reset state are in canonical form. -/
theorem reset_buffers_wf : State.reset.src.wf ∧ State.reset.dst.wf :=
  ⟨⟨List.Pairwise.nil, by rintro _ ⟨⟩⟩, ⟨List.Pairwise.nil, by rintro _ ⟨⟩⟩⟩

end Sys2Proof.Machine
end

