-- ==== Sys2Proof/Laws/State.lean ====
section
/-! SUPPORT. One lemma per field per named update of Machine/State.lean, each true by unfolding the update once, so
that no later proof unfolds a record update. -/

namespace Sys2Proof.Machine

/-! ### Updates of the registers of a core -/

@[simp] theorem Core.withRequest_op (k : Core) (op : BitVec 1) (cb : Block) : (k.withRequest op cb).op = op := rfl
@[simp] theorem Core.withRequest_cb (k : Core) (op : BitVec 1) (cb : Block) : (k.withRequest op cb).cb = cb := rfl
@[simp] theorem Core.withRequest_ab (k : Core) (op : BitVec 1) (cb : Block) : (k.withRequest op cb).ab = k.ab := rfl
@[simp] theorem Core.withRequest_mode (k : Core) (op : BitVec 1) (cb : Block) : (k.withRequest op cb).mode = k.mode := rfl
@[simp] theorem Core.withRequest_sums (k : Core) (op : BitVec 1) (cb : Block) : (k.withRequest op cb).sums = k.sums := rfl
@[simp] theorem Core.withRequest_payload (k : Core) (op : BitVec 1) (cb : Block) : (k.withRequest op cb).payload = k.payload := rfl
@[simp] theorem Core.withRequest_idx2 (k : Core) (op : BitVec 1) (cb : Block) : (k.withRequest op cb).idx2 = k.idx2 := rfl
@[simp] theorem Core.withRequest_idx3 (k : Core) (op : BitVec 1) (cb : Block) : (k.withRequest op cb).idx3 = k.idx3 := rfl
@[simp] theorem Core.withRequest_base1 (k : Core) (op : BitVec 1) (cb : Block) : (k.withRequest op cb).base1 = k.base1 := rfl
@[simp] theorem Core.withRequest_base2 (k : Core) (op : BitVec 1) (cb : Block) : (k.withRequest op cb).base2 = k.base2 := rfl
@[simp] theorem Core.withRequest_ord (k : Core) (op : BitVec 1) (cb : Block) : (k.withRequest op cb).ord = k.ord := rfl
@[simp] theorem Core.withRequest_di (k : Core) (op : BitVec 1) (cb : Block) : (k.withRequest op cb).di = k.di := rfl
@[simp] theorem Core.withRequest_d (k : Core) (op : BitVec 1) (cb : Block) : (k.withRequest op cb).d = k.d := rfl
@[simp] theorem Core.withRequest_paint (k : Core) (op : BitVec 1) (cb : Block) : (k.withRequest op cb).paint = k.paint := rfl
@[simp] theorem Core.withRequest_cornerO (k : Core) (op : BitVec 1) (cb : Block) : (k.withRequest op cb).cornerO = k.cornerO := rfl
@[simp] theorem Core.withRequest_cornerH (k : Core) (op : BitVec 1) (cb : Block) : (k.withRequest op cb).cornerH = k.cornerH := rfl
@[simp] theorem Core.withRequest_cornerV (k : Core) (op : BitVec 1) (cb : Block) : (k.withRequest op cb).cornerV = k.cornerV := rfl
@[simp] theorem Core.withRequest_alpha (k : Core) (op : BitVec 1) (cb : Block) : (k.withRequest op cb).alpha = k.alpha := rfl
@[simp] theorem Core.withRequest_px (k : Core) (op : BitVec 1) (cb : Block) : (k.withRequest op cb).px = k.px := rfl
@[simp] theorem Core.withRequest_response (k : Core) (op : BitVec 1) (cb : Block) : (k.withRequest op cb).response = k.response := rfl

@[simp] theorem Core.withAlphaBlock_op (k : Core) (ab : Block) : (k.withAlphaBlock ab).op = k.op := rfl
@[simp] theorem Core.withAlphaBlock_cb (k : Core) (ab : Block) : (k.withAlphaBlock ab).cb = k.cb := rfl
@[simp] theorem Core.withAlphaBlock_ab (k : Core) (ab : Block) : (k.withAlphaBlock ab).ab = ab := rfl
@[simp] theorem Core.withAlphaBlock_mode (k : Core) (ab : Block) : (k.withAlphaBlock ab).mode = k.mode := rfl
@[simp] theorem Core.withAlphaBlock_sums (k : Core) (ab : Block) : (k.withAlphaBlock ab).sums = k.sums := rfl
@[simp] theorem Core.withAlphaBlock_payload (k : Core) (ab : Block) : (k.withAlphaBlock ab).payload = k.payload := rfl
@[simp] theorem Core.withAlphaBlock_idx2 (k : Core) (ab : Block) : (k.withAlphaBlock ab).idx2 = k.idx2 := rfl
@[simp] theorem Core.withAlphaBlock_idx3 (k : Core) (ab : Block) : (k.withAlphaBlock ab).idx3 = k.idx3 := rfl
@[simp] theorem Core.withAlphaBlock_base1 (k : Core) (ab : Block) : (k.withAlphaBlock ab).base1 = k.base1 := rfl
@[simp] theorem Core.withAlphaBlock_base2 (k : Core) (ab : Block) : (k.withAlphaBlock ab).base2 = k.base2 := rfl
@[simp] theorem Core.withAlphaBlock_ord (k : Core) (ab : Block) : (k.withAlphaBlock ab).ord = k.ord := rfl
@[simp] theorem Core.withAlphaBlock_di (k : Core) (ab : Block) : (k.withAlphaBlock ab).di = k.di := rfl
@[simp] theorem Core.withAlphaBlock_d (k : Core) (ab : Block) : (k.withAlphaBlock ab).d = k.d := rfl
@[simp] theorem Core.withAlphaBlock_paint (k : Core) (ab : Block) : (k.withAlphaBlock ab).paint = k.paint := rfl
@[simp] theorem Core.withAlphaBlock_cornerO (k : Core) (ab : Block) : (k.withAlphaBlock ab).cornerO = k.cornerO := rfl
@[simp] theorem Core.withAlphaBlock_cornerH (k : Core) (ab : Block) : (k.withAlphaBlock ab).cornerH = k.cornerH := rfl
@[simp] theorem Core.withAlphaBlock_cornerV (k : Core) (ab : Block) : (k.withAlphaBlock ab).cornerV = k.cornerV := rfl
@[simp] theorem Core.withAlphaBlock_alpha (k : Core) (ab : Block) : (k.withAlphaBlock ab).alpha = k.alpha := rfl
@[simp] theorem Core.withAlphaBlock_px (k : Core) (ab : Block) : (k.withAlphaBlock ab).px = k.px := rfl
@[simp] theorem Core.withAlphaBlock_response (k : Core) (ab : Block) : (k.withAlphaBlock ab).response = k.response := rfl

@[simp] theorem Core.withMode_op (k : Core) (m : Mode) (x : Sums) : (k.withMode m x).op = k.op := rfl
@[simp] theorem Core.withMode_cb (k : Core) (m : Mode) (x : Sums) : (k.withMode m x).cb = k.cb := rfl
@[simp] theorem Core.withMode_ab (k : Core) (m : Mode) (x : Sums) : (k.withMode m x).ab = k.ab := rfl
@[simp] theorem Core.withMode_mode (k : Core) (m : Mode) (x : Sums) : (k.withMode m x).mode = m := rfl
@[simp] theorem Core.withMode_sums (k : Core) (m : Mode) (x : Sums) : (k.withMode m x).sums = x := rfl
@[simp] theorem Core.withMode_payload (k : Core) (m : Mode) (x : Sums) : (k.withMode m x).payload = k.payload := rfl
@[simp] theorem Core.withMode_idx2 (k : Core) (m : Mode) (x : Sums) : (k.withMode m x).idx2 = k.idx2 := rfl
@[simp] theorem Core.withMode_idx3 (k : Core) (m : Mode) (x : Sums) : (k.withMode m x).idx3 = k.idx3 := rfl
@[simp] theorem Core.withMode_base1 (k : Core) (m : Mode) (x : Sums) : (k.withMode m x).base1 = k.base1 := rfl
@[simp] theorem Core.withMode_base2 (k : Core) (m : Mode) (x : Sums) : (k.withMode m x).base2 = k.base2 := rfl
@[simp] theorem Core.withMode_ord (k : Core) (m : Mode) (x : Sums) : (k.withMode m x).ord = k.ord := rfl
@[simp] theorem Core.withMode_di (k : Core) (m : Mode) (x : Sums) : (k.withMode m x).di = k.di := rfl
@[simp] theorem Core.withMode_d (k : Core) (m : Mode) (x : Sums) : (k.withMode m x).d = k.d := rfl
@[simp] theorem Core.withMode_paint (k : Core) (m : Mode) (x : Sums) : (k.withMode m x).paint = k.paint := rfl
@[simp] theorem Core.withMode_cornerO (k : Core) (m : Mode) (x : Sums) : (k.withMode m x).cornerO = k.cornerO := rfl
@[simp] theorem Core.withMode_cornerH (k : Core) (m : Mode) (x : Sums) : (k.withMode m x).cornerH = k.cornerH := rfl
@[simp] theorem Core.withMode_cornerV (k : Core) (m : Mode) (x : Sums) : (k.withMode m x).cornerV = k.cornerV := rfl
@[simp] theorem Core.withMode_alpha (k : Core) (m : Mode) (x : Sums) : (k.withMode m x).alpha = k.alpha := rfl
@[simp] theorem Core.withMode_px (k : Core) (m : Mode) (x : Sums) : (k.withMode m x).px = k.px := rfl
@[simp] theorem Core.withMode_response (k : Core) (m : Mode) (x : Sums) : (k.withMode m x).response = k.response := rfl

@[simp] theorem Core.withIdx2_op (k : Core) (v : Idx2Table) : (k.withIdx2 v).op = k.op := rfl
@[simp] theorem Core.withIdx2_cb (k : Core) (v : Idx2Table) : (k.withIdx2 v).cb = k.cb := rfl
@[simp] theorem Core.withIdx2_ab (k : Core) (v : Idx2Table) : (k.withIdx2 v).ab = k.ab := rfl
@[simp] theorem Core.withIdx2_mode (k : Core) (v : Idx2Table) : (k.withIdx2 v).mode = k.mode := rfl
@[simp] theorem Core.withIdx2_sums (k : Core) (v : Idx2Table) : (k.withIdx2 v).sums = k.sums := rfl
@[simp] theorem Core.withIdx2_payload (k : Core) (v : Idx2Table) : (k.withIdx2 v).payload = k.payload := rfl
@[simp] theorem Core.withIdx2_idx2 (k : Core) (v : Idx2Table) : (k.withIdx2 v).idx2 = v := rfl
@[simp] theorem Core.withIdx2_idx3 (k : Core) (v : Idx2Table) : (k.withIdx2 v).idx3 = k.idx3 := rfl
@[simp] theorem Core.withIdx2_base1 (k : Core) (v : Idx2Table) : (k.withIdx2 v).base1 = k.base1 := rfl
@[simp] theorem Core.withIdx2_base2 (k : Core) (v : Idx2Table) : (k.withIdx2 v).base2 = k.base2 := rfl
@[simp] theorem Core.withIdx2_ord (k : Core) (v : Idx2Table) : (k.withIdx2 v).ord = k.ord := rfl
@[simp] theorem Core.withIdx2_di (k : Core) (v : Idx2Table) : (k.withIdx2 v).di = k.di := rfl
@[simp] theorem Core.withIdx2_d (k : Core) (v : Idx2Table) : (k.withIdx2 v).d = k.d := rfl
@[simp] theorem Core.withIdx2_paint (k : Core) (v : Idx2Table) : (k.withIdx2 v).paint = k.paint := rfl
@[simp] theorem Core.withIdx2_cornerO (k : Core) (v : Idx2Table) : (k.withIdx2 v).cornerO = k.cornerO := rfl
@[simp] theorem Core.withIdx2_cornerH (k : Core) (v : Idx2Table) : (k.withIdx2 v).cornerH = k.cornerH := rfl
@[simp] theorem Core.withIdx2_cornerV (k : Core) (v : Idx2Table) : (k.withIdx2 v).cornerV = k.cornerV := rfl
@[simp] theorem Core.withIdx2_alpha (k : Core) (v : Idx2Table) : (k.withIdx2 v).alpha = k.alpha := rfl
@[simp] theorem Core.withIdx2_px (k : Core) (v : Idx2Table) : (k.withIdx2 v).px = k.px := rfl
@[simp] theorem Core.withIdx2_response (k : Core) (v : Idx2Table) : (k.withIdx2 v).response = k.response := rfl

@[simp] theorem Core.withIdx3_op (k : Core) (v : Idx3Table) : (k.withIdx3 v).op = k.op := rfl
@[simp] theorem Core.withIdx3_cb (k : Core) (v : Idx3Table) : (k.withIdx3 v).cb = k.cb := rfl
@[simp] theorem Core.withIdx3_ab (k : Core) (v : Idx3Table) : (k.withIdx3 v).ab = k.ab := rfl
@[simp] theorem Core.withIdx3_mode (k : Core) (v : Idx3Table) : (k.withIdx3 v).mode = k.mode := rfl
@[simp] theorem Core.withIdx3_sums (k : Core) (v : Idx3Table) : (k.withIdx3 v).sums = k.sums := rfl
@[simp] theorem Core.withIdx3_payload (k : Core) (v : Idx3Table) : (k.withIdx3 v).payload = k.payload := rfl
@[simp] theorem Core.withIdx3_idx2 (k : Core) (v : Idx3Table) : (k.withIdx3 v).idx2 = k.idx2 := rfl
@[simp] theorem Core.withIdx3_idx3 (k : Core) (v : Idx3Table) : (k.withIdx3 v).idx3 = v := rfl
@[simp] theorem Core.withIdx3_base1 (k : Core) (v : Idx3Table) : (k.withIdx3 v).base1 = k.base1 := rfl
@[simp] theorem Core.withIdx3_base2 (k : Core) (v : Idx3Table) : (k.withIdx3 v).base2 = k.base2 := rfl
@[simp] theorem Core.withIdx3_ord (k : Core) (v : Idx3Table) : (k.withIdx3 v).ord = k.ord := rfl
@[simp] theorem Core.withIdx3_di (k : Core) (v : Idx3Table) : (k.withIdx3 v).di = k.di := rfl
@[simp] theorem Core.withIdx3_d (k : Core) (v : Idx3Table) : (k.withIdx3 v).d = k.d := rfl
@[simp] theorem Core.withIdx3_paint (k : Core) (v : Idx3Table) : (k.withIdx3 v).paint = k.paint := rfl
@[simp] theorem Core.withIdx3_cornerO (k : Core) (v : Idx3Table) : (k.withIdx3 v).cornerO = k.cornerO := rfl
@[simp] theorem Core.withIdx3_cornerH (k : Core) (v : Idx3Table) : (k.withIdx3 v).cornerH = k.cornerH := rfl
@[simp] theorem Core.withIdx3_cornerV (k : Core) (v : Idx3Table) : (k.withIdx3 v).cornerV = k.cornerV := rfl
@[simp] theorem Core.withIdx3_alpha (k : Core) (v : Idx3Table) : (k.withIdx3 v).alpha = k.alpha := rfl
@[simp] theorem Core.withIdx3_px (k : Core) (v : Idx3Table) : (k.withIdx3 v).px = k.px := rfl
@[simp] theorem Core.withIdx3_response (k : Core) (v : Idx3Table) : (k.withIdx3 v).response = k.response := rfl

@[simp] theorem Core.withBases_op (k : Core) (p : Payload) (x y : Color) : (k.withBases p x y).op = k.op := rfl
@[simp] theorem Core.withBases_cb (k : Core) (p : Payload) (x y : Color) : (k.withBases p x y).cb = k.cb := rfl
@[simp] theorem Core.withBases_ab (k : Core) (p : Payload) (x y : Color) : (k.withBases p x y).ab = k.ab := rfl
@[simp] theorem Core.withBases_mode (k : Core) (p : Payload) (x y : Color) : (k.withBases p x y).mode = k.mode := rfl
@[simp] theorem Core.withBases_sums (k : Core) (p : Payload) (x y : Color) : (k.withBases p x y).sums = k.sums := rfl
@[simp] theorem Core.withBases_payload (k : Core) (p : Payload) (x y : Color) : (k.withBases p x y).payload = p := rfl
@[simp] theorem Core.withBases_idx2 (k : Core) (p : Payload) (x y : Color) : (k.withBases p x y).idx2 = k.idx2 := rfl
@[simp] theorem Core.withBases_idx3 (k : Core) (p : Payload) (x y : Color) : (k.withBases p x y).idx3 = k.idx3 := rfl
@[simp] theorem Core.withBases_base1 (k : Core) (p : Payload) (x y : Color) : (k.withBases p x y).base1 = x := rfl
@[simp] theorem Core.withBases_base2 (k : Core) (p : Payload) (x y : Color) : (k.withBases p x y).base2 = y := rfl
@[simp] theorem Core.withBases_ord (k : Core) (p : Payload) (x y : Color) : (k.withBases p x y).ord = k.ord := rfl
@[simp] theorem Core.withBases_di (k : Core) (p : Payload) (x y : Color) : (k.withBases p x y).di = k.di := rfl
@[simp] theorem Core.withBases_d (k : Core) (p : Payload) (x y : Color) : (k.withBases p x y).d = k.d := rfl
@[simp] theorem Core.withBases_paint (k : Core) (p : Payload) (x y : Color) : (k.withBases p x y).paint = k.paint := rfl
@[simp] theorem Core.withBases_cornerO (k : Core) (p : Payload) (x y : Color) : (k.withBases p x y).cornerO = k.cornerO := rfl
@[simp] theorem Core.withBases_cornerH (k : Core) (p : Payload) (x y : Color) : (k.withBases p x y).cornerH = k.cornerH := rfl
@[simp] theorem Core.withBases_cornerV (k : Core) (p : Payload) (x y : Color) : (k.withBases p x y).cornerV = k.cornerV := rfl
@[simp] theorem Core.withBases_alpha (k : Core) (p : Payload) (x y : Color) : (k.withBases p x y).alpha = k.alpha := rfl
@[simp] theorem Core.withBases_px (k : Core) (p : Payload) (x y : Color) : (k.withBases p x y).px = k.px := rfl
@[simp] theorem Core.withBases_response (k : Core) (p : Payload) (x y : Color) : (k.withBases p x y).response = k.response := rfl

@[simp] theorem Core.withOrd_op (k : Core) (o : BitVec 1) : (k.withOrd o).op = k.op := rfl
@[simp] theorem Core.withOrd_cb (k : Core) (o : BitVec 1) : (k.withOrd o).cb = k.cb := rfl
@[simp] theorem Core.withOrd_ab (k : Core) (o : BitVec 1) : (k.withOrd o).ab = k.ab := rfl
@[simp] theorem Core.withOrd_mode (k : Core) (o : BitVec 1) : (k.withOrd o).mode = k.mode := rfl
@[simp] theorem Core.withOrd_sums (k : Core) (o : BitVec 1) : (k.withOrd o).sums = k.sums := rfl
@[simp] theorem Core.withOrd_payload (k : Core) (o : BitVec 1) : (k.withOrd o).payload = k.payload := rfl
@[simp] theorem Core.withOrd_idx2 (k : Core) (o : BitVec 1) : (k.withOrd o).idx2 = k.idx2 := rfl
@[simp] theorem Core.withOrd_idx3 (k : Core) (o : BitVec 1) : (k.withOrd o).idx3 = k.idx3 := rfl
@[simp] theorem Core.withOrd_base1 (k : Core) (o : BitVec 1) : (k.withOrd o).base1 = k.base1 := rfl
@[simp] theorem Core.withOrd_base2 (k : Core) (o : BitVec 1) : (k.withOrd o).base2 = k.base2 := rfl
@[simp] theorem Core.withOrd_ord (k : Core) (o : BitVec 1) : (k.withOrd o).ord = o := rfl
@[simp] theorem Core.withOrd_di (k : Core) (o : BitVec 1) : (k.withOrd o).di = k.di := rfl
@[simp] theorem Core.withOrd_d (k : Core) (o : BitVec 1) : (k.withOrd o).d = k.d := rfl
@[simp] theorem Core.withOrd_paint (k : Core) (o : BitVec 1) : (k.withOrd o).paint = k.paint := rfl
@[simp] theorem Core.withOrd_cornerO (k : Core) (o : BitVec 1) : (k.withOrd o).cornerO = k.cornerO := rfl
@[simp] theorem Core.withOrd_cornerH (k : Core) (o : BitVec 1) : (k.withOrd o).cornerH = k.cornerH := rfl
@[simp] theorem Core.withOrd_cornerV (k : Core) (o : BitVec 1) : (k.withOrd o).cornerV = k.cornerV := rfl
@[simp] theorem Core.withOrd_alpha (k : Core) (o : BitVec 1) : (k.withOrd o).alpha = k.alpha := rfl
@[simp] theorem Core.withOrd_px (k : Core) (o : BitVec 1) : (k.withOrd o).px = k.px := rfl
@[simp] theorem Core.withOrd_response (k : Core) (o : BitVec 1) : (k.withOrd o).response = k.response := rfl

@[simp] theorem Core.withDistance_op (k : Core) (i : BitVec 3) (n : Nat) : (k.withDistance i n).op = k.op := rfl
@[simp] theorem Core.withDistance_cb (k : Core) (i : BitVec 3) (n : Nat) : (k.withDistance i n).cb = k.cb := rfl
@[simp] theorem Core.withDistance_ab (k : Core) (i : BitVec 3) (n : Nat) : (k.withDistance i n).ab = k.ab := rfl
@[simp] theorem Core.withDistance_mode (k : Core) (i : BitVec 3) (n : Nat) : (k.withDistance i n).mode = k.mode := rfl
@[simp] theorem Core.withDistance_sums (k : Core) (i : BitVec 3) (n : Nat) : (k.withDistance i n).sums = k.sums := rfl
@[simp] theorem Core.withDistance_payload (k : Core) (i : BitVec 3) (n : Nat) : (k.withDistance i n).payload = k.payload := rfl
@[simp] theorem Core.withDistance_idx2 (k : Core) (i : BitVec 3) (n : Nat) : (k.withDistance i n).idx2 = k.idx2 := rfl
@[simp] theorem Core.withDistance_idx3 (k : Core) (i : BitVec 3) (n : Nat) : (k.withDistance i n).idx3 = k.idx3 := rfl
@[simp] theorem Core.withDistance_base1 (k : Core) (i : BitVec 3) (n : Nat) : (k.withDistance i n).base1 = k.base1 := rfl
@[simp] theorem Core.withDistance_base2 (k : Core) (i : BitVec 3) (n : Nat) : (k.withDistance i n).base2 = k.base2 := rfl
@[simp] theorem Core.withDistance_ord (k : Core) (i : BitVec 3) (n : Nat) : (k.withDistance i n).ord = k.ord := rfl
@[simp] theorem Core.withDistance_di (k : Core) (i : BitVec 3) (n : Nat) : (k.withDistance i n).di = i := rfl
@[simp] theorem Core.withDistance_d (k : Core) (i : BitVec 3) (n : Nat) : (k.withDistance i n).d = n := rfl
@[simp] theorem Core.withDistance_paint (k : Core) (i : BitVec 3) (n : Nat) : (k.withDistance i n).paint = k.paint := rfl
@[simp] theorem Core.withDistance_cornerO (k : Core) (i : BitVec 3) (n : Nat) : (k.withDistance i n).cornerO = k.cornerO := rfl
@[simp] theorem Core.withDistance_cornerH (k : Core) (i : BitVec 3) (n : Nat) : (k.withDistance i n).cornerH = k.cornerH := rfl
@[simp] theorem Core.withDistance_cornerV (k : Core) (i : BitVec 3) (n : Nat) : (k.withDistance i n).cornerV = k.cornerV := rfl
@[simp] theorem Core.withDistance_alpha (k : Core) (i : BitVec 3) (n : Nat) : (k.withDistance i n).alpha = k.alpha := rfl
@[simp] theorem Core.withDistance_px (k : Core) (i : BitVec 3) (n : Nat) : (k.withDistance i n).px = k.px := rfl
@[simp] theorem Core.withDistance_response (k : Core) (i : BitVec 3) (n : Nat) : (k.withDistance i n).response = k.response := rfl

@[simp] theorem Core.withPaint_op (k : Core) (v : Vector Color 4) : (k.withPaint v).op = k.op := rfl
@[simp] theorem Core.withPaint_cb (k : Core) (v : Vector Color 4) : (k.withPaint v).cb = k.cb := rfl
@[simp] theorem Core.withPaint_ab (k : Core) (v : Vector Color 4) : (k.withPaint v).ab = k.ab := rfl
@[simp] theorem Core.withPaint_mode (k : Core) (v : Vector Color 4) : (k.withPaint v).mode = k.mode := rfl
@[simp] theorem Core.withPaint_sums (k : Core) (v : Vector Color 4) : (k.withPaint v).sums = k.sums := rfl
@[simp] theorem Core.withPaint_payload (k : Core) (v : Vector Color 4) : (k.withPaint v).payload = k.payload := rfl
@[simp] theorem Core.withPaint_idx2 (k : Core) (v : Vector Color 4) : (k.withPaint v).idx2 = k.idx2 := rfl
@[simp] theorem Core.withPaint_idx3 (k : Core) (v : Vector Color 4) : (k.withPaint v).idx3 = k.idx3 := rfl
@[simp] theorem Core.withPaint_base1 (k : Core) (v : Vector Color 4) : (k.withPaint v).base1 = k.base1 := rfl
@[simp] theorem Core.withPaint_base2 (k : Core) (v : Vector Color 4) : (k.withPaint v).base2 = k.base2 := rfl
@[simp] theorem Core.withPaint_ord (k : Core) (v : Vector Color 4) : (k.withPaint v).ord = k.ord := rfl
@[simp] theorem Core.withPaint_di (k : Core) (v : Vector Color 4) : (k.withPaint v).di = k.di := rfl
@[simp] theorem Core.withPaint_d (k : Core) (v : Vector Color 4) : (k.withPaint v).d = k.d := rfl
@[simp] theorem Core.withPaint_paint (k : Core) (v : Vector Color 4) : (k.withPaint v).paint = v := rfl
@[simp] theorem Core.withPaint_cornerO (k : Core) (v : Vector Color 4) : (k.withPaint v).cornerO = k.cornerO := rfl
@[simp] theorem Core.withPaint_cornerH (k : Core) (v : Vector Color 4) : (k.withPaint v).cornerH = k.cornerH := rfl
@[simp] theorem Core.withPaint_cornerV (k : Core) (v : Vector Color 4) : (k.withPaint v).cornerV = k.cornerV := rfl
@[simp] theorem Core.withPaint_alpha (k : Core) (v : Vector Color 4) : (k.withPaint v).alpha = k.alpha := rfl
@[simp] theorem Core.withPaint_px (k : Core) (v : Vector Color 4) : (k.withPaint v).px = k.px := rfl
@[simp] theorem Core.withPaint_response (k : Core) (v : Vector Color 4) : (k.withPaint v).response = k.response := rfl

@[simp] theorem Core.withCorners_op (k : Core) (p : Payload) (o h v : Color) : (k.withCorners p o h v).op = k.op := rfl
@[simp] theorem Core.withCorners_cb (k : Core) (p : Payload) (o h v : Color) : (k.withCorners p o h v).cb = k.cb := rfl
@[simp] theorem Core.withCorners_ab (k : Core) (p : Payload) (o h v : Color) : (k.withCorners p o h v).ab = k.ab := rfl
@[simp] theorem Core.withCorners_mode (k : Core) (p : Payload) (o h v : Color) : (k.withCorners p o h v).mode = k.mode := rfl
@[simp] theorem Core.withCorners_sums (k : Core) (p : Payload) (o h v : Color) : (k.withCorners p o h v).sums = k.sums := rfl
@[simp] theorem Core.withCorners_payload (k : Core) (p : Payload) (o h v : Color) : (k.withCorners p o h v).payload = p := rfl
@[simp] theorem Core.withCorners_idx2 (k : Core) (p : Payload) (o h v : Color) : (k.withCorners p o h v).idx2 = k.idx2 := rfl
@[simp] theorem Core.withCorners_idx3 (k : Core) (p : Payload) (o h v : Color) : (k.withCorners p o h v).idx3 = k.idx3 := rfl
@[simp] theorem Core.withCorners_base1 (k : Core) (p : Payload) (o h v : Color) : (k.withCorners p o h v).base1 = k.base1 := rfl
@[simp] theorem Core.withCorners_base2 (k : Core) (p : Payload) (o h v : Color) : (k.withCorners p o h v).base2 = k.base2 := rfl
@[simp] theorem Core.withCorners_ord (k : Core) (p : Payload) (o h v : Color) : (k.withCorners p o h v).ord = k.ord := rfl
@[simp] theorem Core.withCorners_di (k : Core) (p : Payload) (o h v : Color) : (k.withCorners p o h v).di = k.di := rfl
@[simp] theorem Core.withCorners_d (k : Core) (p : Payload) (o h v : Color) : (k.withCorners p o h v).d = k.d := rfl
@[simp] theorem Core.withCorners_paint (k : Core) (p : Payload) (o h v : Color) : (k.withCorners p o h v).paint = k.paint := rfl
@[simp] theorem Core.withCorners_cornerO (k : Core) (p : Payload) (o h v : Color) : (k.withCorners p o h v).cornerO = o := rfl
@[simp] theorem Core.withCorners_cornerH (k : Core) (p : Payload) (o h v : Color) : (k.withCorners p o h v).cornerH = h := rfl
@[simp] theorem Core.withCorners_cornerV (k : Core) (p : Payload) (o h v : Color) : (k.withCorners p o h v).cornerV = v := rfl
@[simp] theorem Core.withCorners_alpha (k : Core) (p : Payload) (o h v : Color) : (k.withCorners p o h v).alpha = k.alpha := rfl
@[simp] theorem Core.withCorners_px (k : Core) (p : Payload) (o h v : Color) : (k.withCorners p o h v).px = k.px := rfl
@[simp] theorem Core.withCorners_response (k : Core) (p : Payload) (o h v : Color) : (k.withCorners p o h v).response = k.response := rfl

@[simp] theorem Core.withAlphaHeader_op (k : Core) (f : AlphaFields) : (k.withAlphaHeader f).op = k.op := rfl
@[simp] theorem Core.withAlphaHeader_cb (k : Core) (f : AlphaFields) : (k.withAlphaHeader f).cb = k.cb := rfl
@[simp] theorem Core.withAlphaHeader_ab (k : Core) (f : AlphaFields) : (k.withAlphaHeader f).ab = k.ab := rfl
@[simp] theorem Core.withAlphaHeader_mode (k : Core) (f : AlphaFields) : (k.withAlphaHeader f).mode = k.mode := rfl
@[simp] theorem Core.withAlphaHeader_sums (k : Core) (f : AlphaFields) : (k.withAlphaHeader f).sums = k.sums := rfl
@[simp] theorem Core.withAlphaHeader_payload (k : Core) (f : AlphaFields) : (k.withAlphaHeader f).payload = k.payload := rfl
@[simp] theorem Core.withAlphaHeader_idx2 (k : Core) (f : AlphaFields) : (k.withAlphaHeader f).idx2 = k.idx2 := rfl
@[simp] theorem Core.withAlphaHeader_idx3 (k : Core) (f : AlphaFields) : (k.withAlphaHeader f).idx3 = k.idx3 := rfl
@[simp] theorem Core.withAlphaHeader_base1 (k : Core) (f : AlphaFields) : (k.withAlphaHeader f).base1 = k.base1 := rfl
@[simp] theorem Core.withAlphaHeader_base2 (k : Core) (f : AlphaFields) : (k.withAlphaHeader f).base2 = k.base2 := rfl
@[simp] theorem Core.withAlphaHeader_ord (k : Core) (f : AlphaFields) : (k.withAlphaHeader f).ord = k.ord := rfl
@[simp] theorem Core.withAlphaHeader_di (k : Core) (f : AlphaFields) : (k.withAlphaHeader f).di = k.di := rfl
@[simp] theorem Core.withAlphaHeader_d (k : Core) (f : AlphaFields) : (k.withAlphaHeader f).d = k.d := rfl
@[simp] theorem Core.withAlphaHeader_paint (k : Core) (f : AlphaFields) : (k.withAlphaHeader f).paint = k.paint := rfl
@[simp] theorem Core.withAlphaHeader_cornerO (k : Core) (f : AlphaFields) : (k.withAlphaHeader f).cornerO = k.cornerO := rfl
@[simp] theorem Core.withAlphaHeader_cornerH (k : Core) (f : AlphaFields) : (k.withAlphaHeader f).cornerH = k.cornerH := rfl
@[simp] theorem Core.withAlphaHeader_cornerV (k : Core) (f : AlphaFields) : (k.withAlphaHeader f).cornerV = k.cornerV := rfl
@[simp] theorem Core.withAlphaHeader_alpha (k : Core) (f : AlphaFields) : (k.withAlphaHeader f).alpha = f := rfl
@[simp] theorem Core.withAlphaHeader_px (k : Core) (f : AlphaFields) : (k.withAlphaHeader f).px = k.px := rfl
@[simp] theorem Core.withAlphaHeader_response (k : Core) (f : AlphaFields) : (k.withAlphaHeader f).response = k.response := rfl

@[simp] theorem Core.withPx_op (k : Core) (px : Vector Pixel 16) : (k.withPx px).op = k.op := rfl
@[simp] theorem Core.withPx_cb (k : Core) (px : Vector Pixel 16) : (k.withPx px).cb = k.cb := rfl
@[simp] theorem Core.withPx_ab (k : Core) (px : Vector Pixel 16) : (k.withPx px).ab = k.ab := rfl
@[simp] theorem Core.withPx_mode (k : Core) (px : Vector Pixel 16) : (k.withPx px).mode = k.mode := rfl
@[simp] theorem Core.withPx_sums (k : Core) (px : Vector Pixel 16) : (k.withPx px).sums = k.sums := rfl
@[simp] theorem Core.withPx_payload (k : Core) (px : Vector Pixel 16) : (k.withPx px).payload = k.payload := rfl
@[simp] theorem Core.withPx_idx2 (k : Core) (px : Vector Pixel 16) : (k.withPx px).idx2 = k.idx2 := rfl
@[simp] theorem Core.withPx_idx3 (k : Core) (px : Vector Pixel 16) : (k.withPx px).idx3 = k.idx3 := rfl
@[simp] theorem Core.withPx_base1 (k : Core) (px : Vector Pixel 16) : (k.withPx px).base1 = k.base1 := rfl
@[simp] theorem Core.withPx_base2 (k : Core) (px : Vector Pixel 16) : (k.withPx px).base2 = k.base2 := rfl
@[simp] theorem Core.withPx_ord (k : Core) (px : Vector Pixel 16) : (k.withPx px).ord = k.ord := rfl
@[simp] theorem Core.withPx_di (k : Core) (px : Vector Pixel 16) : (k.withPx px).di = k.di := rfl
@[simp] theorem Core.withPx_d (k : Core) (px : Vector Pixel 16) : (k.withPx px).d = k.d := rfl
@[simp] theorem Core.withPx_paint (k : Core) (px : Vector Pixel 16) : (k.withPx px).paint = k.paint := rfl
@[simp] theorem Core.withPx_cornerO (k : Core) (px : Vector Pixel 16) : (k.withPx px).cornerO = k.cornerO := rfl
@[simp] theorem Core.withPx_cornerH (k : Core) (px : Vector Pixel 16) : (k.withPx px).cornerH = k.cornerH := rfl
@[simp] theorem Core.withPx_cornerV (k : Core) (px : Vector Pixel 16) : (k.withPx px).cornerV = k.cornerV := rfl
@[simp] theorem Core.withPx_alpha (k : Core) (px : Vector Pixel 16) : (k.withPx px).alpha = k.alpha := rfl
@[simp] theorem Core.withPx_px (k : Core) (px : Vector Pixel 16) : (k.withPx px).px = px := rfl
@[simp] theorem Core.withPx_response (k : Core) (px : Vector Pixel 16) : (k.withPx px).response = k.response := rfl

@[simp] theorem Core.withResponse_op (k : Core) (r : Option (Vector Pixel 16)) : (k.withResponse r).op = k.op := rfl
@[simp] theorem Core.withResponse_cb (k : Core) (r : Option (Vector Pixel 16)) : (k.withResponse r).cb = k.cb := rfl
@[simp] theorem Core.withResponse_ab (k : Core) (r : Option (Vector Pixel 16)) : (k.withResponse r).ab = k.ab := rfl
@[simp] theorem Core.withResponse_mode (k : Core) (r : Option (Vector Pixel 16)) : (k.withResponse r).mode = k.mode := rfl
@[simp] theorem Core.withResponse_sums (k : Core) (r : Option (Vector Pixel 16)) : (k.withResponse r).sums = k.sums := rfl
@[simp] theorem Core.withResponse_payload (k : Core) (r : Option (Vector Pixel 16)) : (k.withResponse r).payload = k.payload := rfl
@[simp] theorem Core.withResponse_idx2 (k : Core) (r : Option (Vector Pixel 16)) : (k.withResponse r).idx2 = k.idx2 := rfl
@[simp] theorem Core.withResponse_idx3 (k : Core) (r : Option (Vector Pixel 16)) : (k.withResponse r).idx3 = k.idx3 := rfl
@[simp] theorem Core.withResponse_base1 (k : Core) (r : Option (Vector Pixel 16)) : (k.withResponse r).base1 = k.base1 := rfl
@[simp] theorem Core.withResponse_base2 (k : Core) (r : Option (Vector Pixel 16)) : (k.withResponse r).base2 = k.base2 := rfl
@[simp] theorem Core.withResponse_ord (k : Core) (r : Option (Vector Pixel 16)) : (k.withResponse r).ord = k.ord := rfl
@[simp] theorem Core.withResponse_di (k : Core) (r : Option (Vector Pixel 16)) : (k.withResponse r).di = k.di := rfl
@[simp] theorem Core.withResponse_d (k : Core) (r : Option (Vector Pixel 16)) : (k.withResponse r).d = k.d := rfl
@[simp] theorem Core.withResponse_paint (k : Core) (r : Option (Vector Pixel 16)) : (k.withResponse r).paint = k.paint := rfl
@[simp] theorem Core.withResponse_cornerO (k : Core) (r : Option (Vector Pixel 16)) : (k.withResponse r).cornerO = k.cornerO := rfl
@[simp] theorem Core.withResponse_cornerH (k : Core) (r : Option (Vector Pixel 16)) : (k.withResponse r).cornerH = k.cornerH := rfl
@[simp] theorem Core.withResponse_cornerV (k : Core) (r : Option (Vector Pixel 16)) : (k.withResponse r).cornerV = k.cornerV := rfl
@[simp] theorem Core.withResponse_alpha (k : Core) (r : Option (Vector Pixel 16)) : (k.withResponse r).alpha = k.alpha := rfl
@[simp] theorem Core.withResponse_px (k : Core) (r : Option (Vector Pixel 16)) : (k.withResponse r).px = k.px := rfl
@[simp] theorem Core.withResponse_response (k : Core) (r : Option (Vector Pixel 16)) : (k.withResponse r).response = r := rfl

/-! ### Updates of the state -/

@[simp] theorem State.withCore_params (s : State) (c : Core) : (s.withCore c).params = s.params := rfl
@[simp] theorem State.withCore_core (s : State) (c : Core) : (s.withCore c).core = c := rfl
@[simp] theorem State.withCore_otherCores (s : State) (c : Core) : (s.withCore c).otherCores = s.otherCores := rfl
@[simp] theorem State.withCore_requests (s : State) (c : Core) : (s.withCore c).requests = s.requests := rfl
@[simp] theorem State.withCore_src (s : State) (c : Core) : (s.withCore c).src = s.src := rfl
@[simp] theorem State.withCore_dst (s : State) (c : Core) : (s.withCore c).dst = s.dst := rfl
@[simp] theorem State.withCore_call (s : State) (c : Core) : (s.withCore c).call = s.call := rfl
@[simp] theorem State.withCore_walk (s : State) (c : Core) : (s.withCore c).walk = s.walk := rfl
@[simp] theorem State.withCore_status (s : State) (c : Core) : (s.withCore c).status = s.status := rfl
@[simp] theorem State.withCore_dstCut (s : State) (c : Core) : (s.withCore c).dstCut = s.dstCut := rfl
@[simp] theorem State.withCore_otherWalkers (s : State) (c : Core) : (s.withCore c).otherWalkers = s.otherWalkers := rfl

@[simp] theorem State.withCores_params (s : State) (c : Core) (cs : List Core) : (s.withCores c cs).params = s.params := rfl
@[simp] theorem State.withCores_core (s : State) (c : Core) (cs : List Core) : (s.withCores c cs).core = c := rfl
@[simp] theorem State.withCores_otherCores (s : State) (c : Core) (cs : List Core) : (s.withCores c cs).otherCores = cs := rfl
@[simp] theorem State.withCores_requests (s : State) (c : Core) (cs : List Core) : (s.withCores c cs).requests = s.requests := rfl
@[simp] theorem State.withCores_src (s : State) (c : Core) (cs : List Core) : (s.withCores c cs).src = s.src := rfl
@[simp] theorem State.withCores_dst (s : State) (c : Core) (cs : List Core) : (s.withCores c cs).dst = s.dst := rfl
@[simp] theorem State.withCores_call (s : State) (c : Core) (cs : List Core) : (s.withCores c cs).call = s.call := rfl
@[simp] theorem State.withCores_walk (s : State) (c : Core) (cs : List Core) : (s.withCores c cs).walk = s.walk := rfl
@[simp] theorem State.withCores_status (s : State) (c : Core) (cs : List Core) : (s.withCores c cs).status = s.status := rfl
@[simp] theorem State.withCores_dstCut (s : State) (c : Core) (cs : List Core) : (s.withCores c cs).dstCut = s.dstCut := rfl
@[simp] theorem State.withCores_otherWalkers (s : State) (c : Core) (cs : List Core) : (s.withCores c cs).otherWalkers = s.otherWalkers := rfl

@[simp] theorem State.withRequests_params (s : State) (rs : List Request) : (s.withRequests rs).params = s.params := rfl
@[simp] theorem State.withRequests_core (s : State) (rs : List Request) : (s.withRequests rs).core = s.core := rfl
@[simp] theorem State.withRequests_otherCores (s : State) (rs : List Request) : (s.withRequests rs).otherCores = s.otherCores := rfl
@[simp] theorem State.withRequests_requests (s : State) (rs : List Request) : (s.withRequests rs).requests = rs := rfl
@[simp] theorem State.withRequests_src (s : State) (rs : List Request) : (s.withRequests rs).src = s.src := rfl
@[simp] theorem State.withRequests_dst (s : State) (rs : List Request) : (s.withRequests rs).dst = s.dst := rfl
@[simp] theorem State.withRequests_call (s : State) (rs : List Request) : (s.withRequests rs).call = s.call := rfl
@[simp] theorem State.withRequests_walk (s : State) (rs : List Request) : (s.withRequests rs).walk = s.walk := rfl
@[simp] theorem State.withRequests_status (s : State) (rs : List Request) : (s.withRequests rs).status = s.status := rfl
@[simp] theorem State.withRequests_dstCut (s : State) (rs : List Request) : (s.withRequests rs).dstCut = s.dstCut := rfl
@[simp] theorem State.withRequests_otherWalkers (s : State) (rs : List Request) : (s.withRequests rs).otherWalkers = s.otherWalkers := rfl

@[simp] theorem State.withDst_params (s : State) (m : Memory) : (s.withDst m).params = s.params := rfl
@[simp] theorem State.withDst_core (s : State) (m : Memory) : (s.withDst m).core = s.core := rfl
@[simp] theorem State.withDst_otherCores (s : State) (m : Memory) : (s.withDst m).otherCores = s.otherCores := rfl
@[simp] theorem State.withDst_requests (s : State) (m : Memory) : (s.withDst m).requests = s.requests := rfl
@[simp] theorem State.withDst_src (s : State) (m : Memory) : (s.withDst m).src = s.src := rfl
@[simp] theorem State.withDst_dst (s : State) (m : Memory) : (s.withDst m).dst = m := rfl
@[simp] theorem State.withDst_call (s : State) (m : Memory) : (s.withDst m).call = s.call := rfl
@[simp] theorem State.withDst_walk (s : State) (m : Memory) : (s.withDst m).walk = s.walk := rfl
@[simp] theorem State.withDst_status (s : State) (m : Memory) : (s.withDst m).status = s.status := rfl
@[simp] theorem State.withDst_dstCut (s : State) (m : Memory) : (s.withDst m).dstCut = s.dstCut := rfl
@[simp] theorem State.withDst_otherWalkers (s : State) (m : Memory) : (s.withDst m).otherWalkers = s.otherWalkers := rfl

@[simp] theorem State.withCall_params (s : State) (c : Option Call) : (s.withCall c).params = s.params := rfl
@[simp] theorem State.withCall_core (s : State) (c : Option Call) : (s.withCall c).core = s.core := rfl
@[simp] theorem State.withCall_otherCores (s : State) (c : Option Call) : (s.withCall c).otherCores = s.otherCores := rfl
@[simp] theorem State.withCall_requests (s : State) (c : Option Call) : (s.withCall c).requests = s.requests := rfl
@[simp] theorem State.withCall_src (s : State) (c : Option Call) : (s.withCall c).src = s.src := rfl
@[simp] theorem State.withCall_dst (s : State) (c : Option Call) : (s.withCall c).dst = s.dst := rfl
@[simp] theorem State.withCall_call (s : State) (c : Option Call) : (s.withCall c).call = c := rfl
@[simp] theorem State.withCall_walk (s : State) (c : Option Call) : (s.withCall c).walk = s.walk := rfl
@[simp] theorem State.withCall_status (s : State) (c : Option Call) : (s.withCall c).status = s.status := rfl
@[simp] theorem State.withCall_dstCut (s : State) (c : Option Call) : (s.withCall c).dstCut = s.dstCut := rfl
@[simp] theorem State.withCall_otherWalkers (s : State) (c : Option Call) : (s.withCall c).otherWalkers = s.otherWalkers := rfl

@[simp] theorem State.withWalk_params (s : State) (w : Option Walk) (st : Option Status) : (s.withWalk w st).params = s.params := rfl
@[simp] theorem State.withWalk_core (s : State) (w : Option Walk) (st : Option Status) : (s.withWalk w st).core = s.core := rfl
@[simp] theorem State.withWalk_otherCores (s : State) (w : Option Walk) (st : Option Status) : (s.withWalk w st).otherCores = s.otherCores := rfl
@[simp] theorem State.withWalk_requests (s : State) (w : Option Walk) (st : Option Status) : (s.withWalk w st).requests = s.requests := rfl
@[simp] theorem State.withWalk_src (s : State) (w : Option Walk) (st : Option Status) : (s.withWalk w st).src = s.src := rfl
@[simp] theorem State.withWalk_dst (s : State) (w : Option Walk) (st : Option Status) : (s.withWalk w st).dst = s.dst := rfl
@[simp] theorem State.withWalk_call (s : State) (w : Option Walk) (st : Option Status) : (s.withWalk w st).call = s.call := rfl
@[simp] theorem State.withWalk_walk (s : State) (w : Option Walk) (st : Option Status) : (s.withWalk w st).walk = w := rfl
@[simp] theorem State.withWalk_status (s : State) (w : Option Walk) (st : Option Status) : (s.withWalk w st).status = st := rfl
@[simp] theorem State.withWalk_dstCut (s : State) (w : Option Walk) (st : Option Status) : (s.withWalk w st).dstCut = s.dstCut := rfl
@[simp] theorem State.withWalk_otherWalkers (s : State) (w : Option Walk) (st : Option Status) : (s.withWalk w st).otherWalkers = s.otherWalkers := rfl

@[simp] theorem State.withWalker_params (s : State) (v : Walker) : (s.withWalker v).params = s.params := rfl
@[simp] theorem State.withWalker_core (s : State) (v : Walker) : (s.withWalker v).core = s.core := rfl
@[simp] theorem State.withWalker_otherCores (s : State) (v : Walker) : (s.withWalker v).otherCores = s.otherCores := rfl
@[simp] theorem State.withWalker_requests (s : State) (v : Walker) : (s.withWalker v).requests = s.requests := rfl
@[simp] theorem State.withWalker_src (s : State) (v : Walker) : (s.withWalker v).src = v.src := rfl
@[simp] theorem State.withWalker_dst (s : State) (v : Walker) : (s.withWalker v).dst = v.dst := rfl
@[simp] theorem State.withWalker_call (s : State) (v : Walker) : (s.withWalker v).call = v.call := rfl
@[simp] theorem State.withWalker_walk (s : State) (v : Walker) : (s.withWalker v).walk = v.walk := rfl
@[simp] theorem State.withWalker_status (s : State) (v : Walker) : (s.withWalker v).status = v.status := rfl
@[simp] theorem State.withWalker_dstCut (s : State) (v : Walker) : (s.withWalker v).dstCut = v.dstCut := rfl
@[simp] theorem State.withWalker_otherWalkers (s : State) (v : Walker) : (s.withWalker v).otherWalkers = s.otherWalkers := rfl

@[simp] theorem State.withOtherWalkers_params (s : State) (vs : List Walker) : (s.withOtherWalkers vs).params = s.params := rfl
@[simp] theorem State.withOtherWalkers_core (s : State) (vs : List Walker) : (s.withOtherWalkers vs).core = s.core := rfl
@[simp] theorem State.withOtherWalkers_otherCores (s : State) (vs : List Walker) : (s.withOtherWalkers vs).otherCores = s.otherCores := rfl
@[simp] theorem State.withOtherWalkers_requests (s : State) (vs : List Walker) : (s.withOtherWalkers vs).requests = s.requests := rfl
@[simp] theorem State.withOtherWalkers_src (s : State) (vs : List Walker) : (s.withOtherWalkers vs).src = s.src := rfl
@[simp] theorem State.withOtherWalkers_dst (s : State) (vs : List Walker) : (s.withOtherWalkers vs).dst = s.dst := rfl
@[simp] theorem State.withOtherWalkers_call (s : State) (vs : List Walker) : (s.withOtherWalkers vs).call = s.call := rfl
@[simp] theorem State.withOtherWalkers_walk (s : State) (vs : List Walker) : (s.withOtherWalkers vs).walk = s.walk := rfl
@[simp] theorem State.withOtherWalkers_status (s : State) (vs : List Walker) : (s.withOtherWalkers vs).status = s.status := rfl
@[simp] theorem State.withOtherWalkers_dstCut (s : State) (vs : List Walker) : (s.withOtherWalkers vs).dstCut = s.dstCut := rfl
@[simp] theorem State.withOtherWalkers_otherWalkers (s : State) (vs : List Walker) : (s.withOtherWalkers vs).otherWalkers = vs := rfl

end Sys2Proof.Machine
end

