-- ==== Sys2Proof/Laws/Ops.lean ====
section
/-! SUPPORT. The laws of the shared operations on the registers and of the walker: for each, once, all it can do. -/

namespace Sys2Proof.Machine

/-! ### Operations on the serving core leave everything else alone -/

@[simp] theorem onCore_params (s : State) (f : Core → Core) : (s.onCore f).params = s.params := rfl
@[simp] theorem onCore_core (s : State) (f : Core → Core) : (s.onCore f).core = f s.core := rfl
@[simp] theorem onCore_otherCores (s : State) (f : Core → Core) : (s.onCore f).otherCores = s.otherCores := rfl
@[simp] theorem onCore_requests (s : State) (f : Core → Core) : (s.onCore f).requests = s.requests := rfl
@[simp] theorem onCore_src (s : State) (f : Core → Core) : (s.onCore f).src = s.src := rfl
@[simp] theorem onCore_dst (s : State) (f : Core → Core) : (s.onCore f).dst = s.dst := rfl
@[simp] theorem onCore_call (s : State) (f : Core → Core) : (s.onCore f).call = s.call := rfl
@[simp] theorem onCore_walk (s : State) (f : Core → Core) : (s.onCore f).walk = s.walk := rfl
@[simp] theorem onCore_status (s : State) (f : Core → Core) : (s.onCore f).status = s.status := rfl
@[simp] theorem onCore_dstCut (s : State) (f : Core → Core) : (s.onCore f).dstCut = s.dstCut := rfl
@[simp] theorem onCore_otherWalkers (s : State) (f : Core → Core) : (s.onCore f).otherWalkers = s.otherWalkers := rfl

/-! ### The turn of the core instances -/

/-- The instances, in turn: the one that served goes to the end (log 12). -/
theorem nextCore_instances (s : State) : s.nextCore.core :: s.nextCore.otherCores = s.otherCores ++ [s.core] := by
  unfold State.nextCore
  split <;> simp_all

@[simp] theorem nextCore_params (s : State) : s.nextCore.params = s.params := by
  unfold State.nextCore; split <;> rfl
@[simp] theorem nextCore_requests (s : State) : s.nextCore.requests = s.requests := by
  unfold State.nextCore; split <;> rfl
@[simp] theorem nextCore_src (s : State) : s.nextCore.src = s.src := by
  unfold State.nextCore; split <;> rfl
@[simp] theorem nextCore_dst (s : State) : s.nextCore.dst = s.dst := by
  unfold State.nextCore; split <;> rfl
@[simp] theorem nextCore_call (s : State) : s.nextCore.call = s.call := by
  unfold State.nextCore; split <;> rfl
@[simp] theorem nextCore_walk (s : State) : s.nextCore.walk = s.walk := by
  unfold State.nextCore; split <;> rfl
@[simp] theorem nextCore_status (s : State) : s.nextCore.status = s.status := by
  unfold State.nextCore; split <;> rfl
@[simp] theorem nextCore_dstCut (s : State) : s.nextCore.dstCut = s.dstCut := by
  unfold State.nextCore; split <;> rfl
@[simp] theorem nextCore_otherWalkers (s : State) : s.nextCore.otherWalkers = s.otherWalkers := by
  unfold State.nextCore; split <;> rfl

/-! ### The end of a call -/

/-- All that raising an error does: the call is gone and its status is the error (R262). -/
theorem raiseError_eq (e : CallError) (s : State) :
    raiseError e s = { s with call := none, walk := none, status := some (.error e) } := rfl

/-- All that a normal return does (R244). -/
theorem returnOk_eq (s : State) : returnOk s = { s with walk := none, status := some .ok } := rfl

/-! ### Checks and the start of a call -/

/-- The checks pass exactly when both buffers are large enough (R261, R263). -/
theorem checkCall_eq_none {c : Call} {srcLen dstLen : Nat} :
    checkCall c srcLen dstLen = none ↔ srcNeed c ≤ srcLen ∧ dstMin c ≤ dstLen ∧ dstNeed c ≤ dstLen := by
  unfold checkCall
  split <;> [skip; split <;> [skip; split]] <;> simp <;> omega

/-- All that the start of a call can do. -/
theorem startCall_cases (c : Call) (s : State) :
    ((fitsAddr s.params.addrW (srcNeed c) && fitsAddr s.params.addrW (dstNeed c)) = false ∧
      startCall c s = .refused (.addressWidth (s.params.addrW.getD 0) (srcNeed c) (dstNeed c))) ∨
    ((fitsAddr s.params.addrW (srcNeed c) && fitsAddr s.params.addrW (dstNeed c)) = true ∧
      ((∃ e, checkCall c s.src.len s.dst.len = some e ∧ startCall c s = .next (raiseError e s)) ∨
       (checkCall c s.src.len s.dst.len = none ∧ blockCount c.width * blockCount c.height = 0 ∧
          startCall c s = .next (returnOk (s.withCall none))) ∨
       (checkCall c s.src.len s.dst.len = none ∧ blockCount c.width * blockCount c.height ≠ 0 ∧
          startCall c s = .next ((s.withCall none).withWalk (some (startWalk c)) none)))) := by
  unfold startCall
  split
  · rename_i h
    refine .inr ⟨h, ?_⟩
    split
    · rename_i e he; exact .inl ⟨e, he, rfl⟩
    · rename_i hn
      split
      · rename_i h0; exact .inr (.inl ⟨hn, h0, rfl⟩)
      · rename_i h0; exact .inr (.inr ⟨hn, h0, rfl⟩)
  · rename_i h
    exact .inl ⟨by simpa using h, rfl⟩

/-! ### One step of the walk -/

/-- The fetch answers exactly when the unit lies in `SRC`, and then with its bytes (R69). -/
theorem fetchUnit_eq_some {w : Walk} {s : State} {r : Request} :
    fetchUnit w s = some r ↔
      w.sp + unitSize w.call.variant ≤ s.src.len ∧
      r = ⟨selectOfOp w.call.variant, (List.range (unitSize w.call.variant)).map fun i => s.src.read (w.sp + i)⟩ := by
  unfold fetchUnit memRead
  split_ifs with h <;> simp [h, eq_comm]

/-- All that moving on can do (R243, R244). -/
theorem advanceWalk_cases (w : Walk) (s : State) :
    (w.bx + 1 < w.blockCountX ∧ advanceWalk w s =
      s.withWalk (some { w with bx := w.bx + 1, sp := w.sp + unitSize w.call.variant }) none) ∨
    (¬ w.bx + 1 < w.blockCountX ∧ w.bY + 1 < w.blockCountY ∧ advanceWalk w s =
      s.withWalk (some { w with bx := 0, bY := w.bY + 1, sp := w.sp + unitSize w.call.variant }) none) ∨
    (¬ w.bx + 1 < w.blockCountX ∧ ¬ w.bY + 1 < w.blockCountY ∧ advanceWalk w s = returnOk s) := by
  unfold advanceWalk
  split_ifs with h1 h2
  · exact .inl ⟨h1, rfl⟩
  · exact .inr (.inl ⟨h1, h2, rfl⟩)
  · exact .inr (.inr ⟨h1, h2, rfl⟩)

@[simp] theorem advanceWalk_params (w : Walk) (s : State) : (advanceWalk w s).params = s.params := by
  unfold advanceWalk; split_ifs <;> rfl
@[simp] theorem advanceWalk_core (w : Walk) (s : State) : (advanceWalk w s).core = s.core := by
  unfold advanceWalk; split_ifs <;> rfl
@[simp] theorem advanceWalk_otherCores (w : Walk) (s : State) : (advanceWalk w s).otherCores = s.otherCores := by
  unfold advanceWalk; split_ifs <;> rfl
@[simp] theorem advanceWalk_requests (w : Walk) (s : State) : (advanceWalk w s).requests = s.requests := by
  unfold advanceWalk; split_ifs <;> rfl
@[simp] theorem advanceWalk_src (w : Walk) (s : State) : (advanceWalk w s).src = s.src := by
  unfold advanceWalk; split_ifs <;> rfl
@[simp] theorem advanceWalk_dst (w : Walk) (s : State) : (advanceWalk w s).dst = s.dst := by
  unfold advanceWalk; split_ifs <;> rfl
@[simp] theorem advanceWalk_call (w : Walk) (s : State) : (advanceWalk w s).call = s.call := by
  unfold advanceWalk; split_ifs <;> rfl
@[simp] theorem advanceWalk_dstCut (w : Walk) (s : State) : (advanceWalk w s).dstCut = s.dstCut := by
  unfold advanceWalk; split_ifs <;> rfl
@[simp] theorem advanceWalk_otherWalkers (w : Walk) (s : State) : (advanceWalk w s).otherWalkers = s.otherWalkers := by
  unfold advanceWalk; split_ifs <;> rfl

/-- All that a write-back can do: the footprint fits and is stored, or the step faults (R70, R245). -/
theorem writeBack_cases (w : Walk) (s : State) :
    (∃ m, memWrite s.dst (footprintCells (blockOffset w.rowPitch w.bx w.bY) w.rowPitch s.core.px) = some m ∧
      writeBack w s = .next (advanceWalk w (((s.withDst m).onCore Core.takeResponse).nextCore))) ∨
    (memWrite s.dst (footprintCells (blockOffset w.rowPitch w.bx w.bY) w.rowPitch s.core.px) = none ∧
      writeBack w s = .fault (.destinationWriteOutOfRange (blockOffset w.rowPitch w.bx w.bY) w.rowPitch s.dst.len)) := by
  unfold writeBack
  split
  · rename_i m h; exact .inl ⟨m, h, rfl⟩
  · rename_i h; exact .inr ⟨h, rfl⟩

/-- The four bytes of a pixel are its channels at ascending offsets (R54). -/
theorem mem_pixelCells {a : Nat} {p : Pixel} {c : Host.Cell} :
    c ∈ pixelCells a p ↔ c = (a, p.r) ∨ c = (a + 1, p.g) ∨ c = (a + 2, p.b) ∨ c = (a + 3, p.a) := by
  simp [pixelCells]

/-- The bytes of a footprint are those of its sixteen pixels (R56). -/
theorem mem_footprintCells {off pitch : Nat} {px : Vector Pixel 16} {c : Host.Cell} :
    c ∈ footprintCells off pitch px ↔
      ∃ i j : Fin 4, c ∈ pixelCells (off + j.val * pitch + i.val * 4) (px[i.val * 4 + j.val]'(by omega)) := by
  unfold footprintCells
  have hall : ∀ x : Fin 4, x ∈ ([0, 1, 2, 3] : List (Fin 4)) := by decide
  simp only [List.mem_flatMap]
  constructor
  · rintro ⟨j, _, i, _, h⟩; exact ⟨i, j, h⟩
  · rintro ⟨i, j, h⟩; exact ⟨j, hall j, i, hall i, h⟩

end Sys2Proof.Machine
end

