-- ==== Sys2Proof/Laws/Exec.lean ====
section
/-! SUPPORT. What the meanings and the step can do, said once. -/

namespace Sys2Proof.Machine

/-- The registers that an instruction leaves in the serving core. -/
def coreAfter (i : Instr) (p : Params) (c : Core) : Core :=
  match i with
  | .etc2I f idx => individualBody p f (c.withIdx2 idx)
  | .etc2T f idx => tBody f (c.withIdx2 idx)
  | .etc2H f idx => hBody f (c.withIdx2 idx)
  | .etc2P f => planarBody f c
  | .etc2D f idx => differentialBody p f (c.withIdx2 idx)
  | .eacA8 f idx => alphaBody p f idx c
  | .decrgb cb => (decodeColorBlock p (c.withRequest 0 cb)).respond
  | .decrgba ab cb => (decodeAlphaBlock p (decodeColorBlock p ((c.withRequest 1 cb).withAlphaBlock ab))).respond
  | .classify b0 b1 b2 b3 => classifyUnit b0 b1 b2 b3 c
  | .idx2 b4 b5 b6 b7 => c.withIdx2 (extractIdx2 b4 b5 b6 b7)
  | .idx3 a2 a3 a4 a5 a6 a7 => c.withIdx3 (extractIdx3 a2 a3 a4 a5 a6 a7)

/-- Every instruction runs and writes the serving core alone. -/
theorem exec_eq (i : Instr) (s : State) : exec i s = .next (s.withCore (coreAfter i s.params s.core)) := by
  cases i <;> rfl

/-- All that serving a request can do. -/
theorem serve_cases (r : Request) (s : State) :
    (∃ i, decode r.sel r.bytes = .ok i ∧ serve r s = .next (s.withCore (coreAfter i s.params s.core))) ∨
    (∃ e, decode r.sel r.bytes = .error e ∧ serve r s = .refused (.undecodable e)) := by
  unfold serve
  split
  · rename_i i h; exact .inl ⟨i, h, exec_eq i s⟩
  · rename_i e h; exact .inr ⟨e, h, rfl⟩

/-- All that one step can do, by what is presented. -/
theorem step_cases (s : State) :
    (∃ r rest, s.requests = r :: rest ∧ step s = serve r (s.withRequests rest)) ∨
    (∃ w, s.requests = [] ∧ s.walk = some w ∧ step s = walkStep w s) ∨
    (∃ c, s.requests = [] ∧ s.walk = none ∧ s.call = some c ∧ step s = startCall c s) ∨
    (s.requests = [] ∧ s.walk = none ∧ s.call = none ∧ step s = .next s) := by
  rcases hr : s.requests with _ | ⟨r, rest⟩
  · rcases hw : s.walk with _ | w
    · rcases hc : s.call with _ | c
      · exact .inr (.inr (.inr ⟨rfl, rfl, rfl, by simp [step, hr, hw, hc]⟩))
      · exact .inr (.inr (.inl ⟨c, rfl, rfl, rfl, by simp [step, hr, hw, hc]⟩))
    · exact .inr (.inl ⟨w, rfl, rfl, by simp [step, hr, hw]⟩)
  · exact .inl ⟨r, rest, rfl, by simp [step, hr]⟩

/-- The bytes that the fetch reads make a request that the decoder takes: the fetch reads exactly as many as the
selected unit takes. -/
theorem decode_fetched (v : BitVec 1) (f : Nat → Byte) :
    ∃ i, decode (selectOfOp v) ((List.range (unitSize v)).map f) = .ok i := by
  unfold selectOfOp unitSize
  split
  · exact ⟨_, rfl⟩
  · exact ⟨_, rfl⟩

/-- All that one step of the walk can do. -/
theorem walkStep_cases (w : Walk) (s : State) :
    (¬ w.sp + unitSize w.call.variant ≤ s.src.len ∧
      walkStep w s = .fault (.sourceReadOutOfRange w.sp (unitSize w.call.variant) s.src.len)) ∨
    (w.sp + unitSize w.call.variant ≤ s.src.len ∧ ∃ i,
      decode (selectOfOp w.call.variant)
        ((List.range (unitSize w.call.variant)).map fun i => s.src.read (w.sp + i)) = .ok i ∧
      walkStep w s = writeBack w (s.withCore (coreAfter i s.params s.core))) := by
  by_cases h : w.sp + unitSize w.call.variant ≤ s.src.len
  · obtain ⟨i, hi⟩ := decode_fetched w.call.variant fun i => s.src.read (w.sp + i)
    refine .inr ⟨h, i, hi, ?_⟩
    have hf := fetchUnit_eq_some.mpr (⟨h, rfl⟩ : w.sp + unitSize w.call.variant ≤ s.src.len ∧ _)
    simp only [walkStep, hf, serve, hi, exec_eq]
  · refine .inl ⟨h, ?_⟩
    have hf : fetchUnit w s = none := by
      rcases hfu : fetchUnit w s with _ | r
      · rfl
      · exact absurd (fetchUnit_eq_some.mp hfu).1 h
    simp only [walkStep, hf]

end Sys2Proof.Machine
end

