-- ==== Sys2Proof/Laws/PerInstr.lean ====
section
/-! SUPPORT. The families of statements that are made per instruction. -/

namespace Sys2Proof.Laws.EncodedLength

/-- The encoding of an instruction has exactly the number of bytes that its unit takes (R80). -/
def Statement (i : Instr) : Prop := (encode i).length = i.select.byteLength

theorem etc2I (f : IndividualFields) (idx : Idx2Table) : Statement (.etc2I f idx) := rfl
theorem etc2T (f : TFields) (idx : Idx2Table) : Statement (.etc2T f idx) := rfl
theorem etc2H (f : HFields) (idx : Idx2Table) : Statement (.etc2H f idx) := rfl
theorem etc2P (f : PlanarFields) : Statement (.etc2P f) := rfl
theorem etc2D (f : DifferentialFields) (idx : Idx2Table) : Statement (.etc2D f idx) := rfl
theorem eacA8 (f : AlphaFields) (idx : Idx3Table) : Statement (.eacA8 f idx) := rfl
theorem decrgb (cb : Block) : Statement (.decrgb cb) := rfl
theorem decrgba (ab cb : Block) : Statement (.decrgba ab cb) := rfl
theorem classify (b0 b1 b2 b3 : Byte) : Statement (.classify b0 b1 b2 b3) := rfl
theorem idx2 (b4 b5 b6 b7 : Byte) : Statement (.idx2 b4 b5 b6 b7) := rfl
theorem idx3 (a2 a3 a4 a5 a6 a7 : Byte) : Statement (.idx3 a2 a3 a4 a5 a6 a7) := rfl

end Sys2Proof.Laws.EncodedLength
end

