-- ==== Sys2Proof/Laws/Units.lean ====
section
/-! SUPPORT. The laws of the shared operations of the bodies: for each, once, all it can do. -/

namespace Sys2Proof

/-- A clamped channel as a number: the value itself, or the nearer bound (R129). -/
theorem clampByte_toNat (v : Int) : ((clampByte v).toNat : Int) = max 0 (min 255 v) := by
  unfold clampByte clamp
  rw [BitVec.toNat_ofInt]
  split_ifs <;> omega

/-- A sum that does not overflow is the 5-bit operand of the extension (R161, R171). -/
theorem deltaSum_range {b : BitVec 5} {d : BitVec 3} (h : overflows (deltaSum b d) = false) :
    0 ≤ deltaSum b d ∧ deltaSum b d ≤ 31 := by
  simp only [overflows, Bool.or_eq_false_iff, decide_eq_false_iff_not] at h
  omega

end Sys2Proof

namespace Sys2Proof.Machine

theorem sum5_toNat {b : BitVec 5} {d : BitVec 3} (h : overflows (deltaSum b d) = false) :
    ((sum5 b d).toNat : Int) = deltaSum b d := by
  have hr := deltaSum_range h
  unfold sum5
  rw [BitVec.toNat_ofInt]
  omega

/-- The pixel at column `i`, row `j` after a rendering by pixel number (R12). -/
theorem ofFn_at {g : Fin 16 → Pixel} (i j : Fin 4) (h : i.val * 4 + j.val < 16) :
    (Vector.ofFn g)[i.val * 4 + j.val] = g ⟨i.val * 4 + j.val, h⟩ := by
  simp

/-! ### What each rendering writes -/

/-- `subblockRender` writes `PX` alone (R176). -/
theorem subblockRender_eq (p : Params) (t1 t2 : BitVec 3) (flip : BitVec 1) (c : Core) :
    subblockRender p t1 t2 flip c = { c with px := Vector.ofFn (subblockPixel p t1 t2 flip c) } := rfl

/-- `paintRender` writes `PX` alone (R192, R198). -/
theorem paintRender_eq (c : Core) :
    paintRender c =
      { c with px := Vector.ofFn fun k : Fin 16 => (c.paint[c.idx2[k].toNat]'(c.idx2[k].isLt)).withAlpha 255 } := rfl

/-- `planarRender` writes `PX` alone (R212). -/
theorem planarRender_eq (c : Core) : planarRender c = { c with px := Vector.ofFn (planarPixel c) } := rfl

/-- `alphaRender` writes the alphas of `PX` alone (R222). -/
theorem alphaRender_eq (p : Params) (c : Core) :
    alphaRender p c =
      { c with px := Vector.ofFn fun k : Fin 16 => { c.px[k] with a := alphaValue p c.alpha c.idx3[k] } } := rfl

/-- A Planar channel over the integers: the shift is the floor of a quarter (R11, R212). -/
theorem planarChannel_toNat (o h v : Byte) (i j : Nat) :
    ((planarChannel o h v i j).toNat : Int) =
      max 0 (min 255 (channel o +
        ((i : Int) * (channel h - channel o) + (j : Int) * (channel v - channel o) + 2) / 4)) := by
  unfold planarChannel
  rw [clampByte_toNat, Int.shiftRight_eq_div_pow]
  rfl

/-! ### The body that the mode names -/

/-- What no body writes: the request, the mode, the sums, both index tables, the alpha header, the response. -/
theorem runBody_frame (p : Params) (c : Core) :
    (runBody p c).op = c.op ∧ (runBody p c).cb = c.cb ∧ (runBody p c).ab = c.ab ∧ (runBody p c).mode = c.mode ∧
    (runBody p c).sums = c.sums ∧ (runBody p c).idx2 = c.idx2 ∧ (runBody p c).idx3 = c.idx3 ∧
    (runBody p c).alpha = c.alpha ∧ (runBody p c).response = c.response := by
  unfold runBody
  cases h : c.mode <;> exact ⟨rfl, rfl, rfl, h, rfl, rfl, rfl, rfl, rfl⟩

/-- Every body leaves alpha 255 in every pixel (R172, R173, R192, R198, R212). -/
theorem runBody_alpha (p : Params) (c : Core) (k : Fin 16) : (runBody p c).px[k].a = 255 := by
  unfold runBody
  cases c.mode <;>
    simp [individualBody, differentialBody, tBody, hBody, planarBody, subblockRender, paintRender, planarRender,
      subblockPixel, planarPixel, Color.withAlpha]

/-- The pixels of a body depend on the mode, the block, the index table and the parameters it reads, and on nothing
else that the registers held (R36). -/
theorem runBody_px_congr {p p' : Params} {c c' : Core} (h1 : p'.imodRows = p.imodRows)
    (h2 : p'.legacyNonflipBase1 = p.legacyNonflipBase1) (hm : c'.mode = c.mode) (hc : c'.cb = c.cb)
    (hi : c'.idx2 = c.idx2) : (runBody p' c').px = (runBody p c).px := by
  have him : ∀ t x, imod p' t x = imod p t x := fun t x => by simp [imod, imodRow, h1]
  unfold runBody
  rw [hm, hc]
  cases c.mode <;>
    simp only [individualBody, differentialBody, tBody, hBody, planarBody, subblockRender, paintRender, planarRender,
      Core.withPx_px]
  · congr 1; funext k; simp [subblockPixel, him, subblockBase, h2, individualBases, hi]
  · congr 1; funext k; simp [subblockPixel, him, subblockBase, h2, differentialBases, hi]
  · congr 1; funext k; simp [tPaint, tDistance, tBases, hi]
  · congr 1; funext k; simp [hPaint, hDistance, hOrder, hBases, hi]
  · rfl

/-- What `MODE`, the block and `IDX2` are when the body runs (R230). -/
theorem latched_fields (c : Core) :
    (extractLatched (classifyLatched c)).mode = blockMode c.cb ∧ (extractLatched (classifyLatched c)).cb = c.cb ∧
    (extractLatched (classifyLatched c)).idx2 = blockIdx2 c.cb := ⟨rfl, rfl, rfl⟩

/-- The color result depends on the latched color block and the parameters alone (R20, R36). -/
theorem decodeColorBlock_px_congr {p p' : Params} {c c' : Core} (h1 : p'.imodRows = p.imodRows)
    (h2 : p'.legacyNonflipBase1 = p.legacyNonflipBase1) (hc : c'.cb = c.cb) :
    (decodeColorBlock p' c').px = (decodeColorBlock p c).px := by
  have a := latched_fields c
  have b := latched_fields c'
  rw [hc] at b
  exact runBody_px_congr h1 h2 (b.1.trans a.1.symm) (b.2.1.trans a.2.1.symm) (b.2.2.trans a.2.2.symm)

/-- The alpha decoder's result depends on its operands, the table and the colors already in `PX` (R222). -/
theorem alphaBody_px_congr {p p' : Params} {c c' : Core} (h : p'.amodRows = p.amodRows) (f : AlphaFields)
    (idx : Idx3Table) (hp : c'.px = c.px) : (alphaBody p' f idx c').px = (alphaBody p f idx c).px := by
  have ha : ∀ t x, amod p' t x = amod p t x := fun t x => by simp [amod, h]
  simp [alphaBody, alphaRender, hp, alphaValue, ha]

end Sys2Proof.Machine
end

