-- ==== Sys2Proof/Laws/Walk.lean ====
section
/-! SUPPORT. What reset, a new call and the turn of another walker do, said once; and what the invariant of a running
call gives its next step. -/

namespace Sys2Proof

open Machine

namespace Machine

/-! ### The fields after a reset -/

@[simp] theorem State.resetWith_params (p : Params) (n : Nat) (a b : Memory) : (State.resetWith p n a b).params = p := rfl
@[simp] theorem State.resetWith_core (p : Params) (n : Nat) (a b : Memory) : (State.resetWith p n a b).core = Core.reset := rfl
@[simp] theorem State.resetWith_otherCores (p : Params) (n : Nat) (a b : Memory) : (State.resetWith p n a b).otherCores = List.replicate (n - 1) Core.reset := rfl
@[simp] theorem State.resetWith_requests (p : Params) (n : Nat) (a b : Memory) : (State.resetWith p n a b).requests = [] := rfl
@[simp] theorem State.resetWith_src (p : Params) (n : Nat) (a b : Memory) : (State.resetWith p n a b).src = a := rfl
@[simp] theorem State.resetWith_dst (p : Params) (n : Nat) (a b : Memory) : (State.resetWith p n a b).dst = b := rfl
@[simp] theorem State.resetWith_call (p : Params) (n : Nat) (a b : Memory) : (State.resetWith p n a b).call = none := rfl
@[simp] theorem State.resetWith_walk (p : Params) (n : Nat) (a b : Memory) : (State.resetWith p n a b).walk = none := rfl
@[simp] theorem State.resetWith_status (p : Params) (n : Nat) (a b : Memory) : (State.resetWith p n a b).status = none := rfl
@[simp] theorem State.resetWith_dstCut (p : Params) (n : Nat) (a b : Memory) : (State.resetWith p n a b).dstCut = false := rfl
@[simp] theorem State.resetWith_otherWalkers (p : Params) (n : Nat) (a b : Memory) : (State.resetWith p n a b).otherWalkers = [] := rfl

@[simp] theorem State.applyReset_params (s : State) : (s.applyReset).params = s.params := rfl
@[simp] theorem State.applyReset_core (s : State) : (s.applyReset).core = Core.reset := rfl
@[simp] theorem State.applyReset_otherCores (s : State) : (s.applyReset).otherCores = s.otherCores.map fun _ => Core.reset := rfl
@[simp] theorem State.applyReset_requests (s : State) : (s.applyReset).requests = [] := rfl
@[simp] theorem State.applyReset_src (s : State) : (s.applyReset).src = s.src := rfl
@[simp] theorem State.applyReset_dst (s : State) : (s.applyReset).dst = s.dst := rfl
@[simp] theorem State.applyReset_call (s : State) : (s.applyReset).call = none := rfl
@[simp] theorem State.applyReset_walk (s : State) : (s.applyReset).walk = none := rfl
@[simp] theorem State.applyReset_status (s : State) : (s.applyReset).status = none := rfl
@[simp] theorem State.applyReset_dstCut (s : State) : (s.applyReset).dstCut = (s.walker.busy || s.dstCut) := rfl
@[simp] theorem State.applyReset_otherWalkers (s : State) : (s.applyReset).otherWalkers = s.otherWalkers.map Walker.applyReset := rfl

@[simp] theorem Walker.applyReset_src (v : Walker) : v.applyReset.src = v.src := rfl
@[simp] theorem Walker.applyReset_dst (v : Walker) : v.applyReset.dst = v.dst := rfl
@[simp] theorem Walker.applyReset_call (v : Walker) : v.applyReset.call = none := rfl
@[simp] theorem Walker.applyReset_walk (v : Walker) : v.applyReset.walk = none := rfl
@[simp] theorem Walker.applyReset_status (v : Walker) : v.applyReset.status = none := rfl
@[simp] theorem Walker.applyReset_dstCut (v : Walker) : v.applyReset.dstCut = (v.busy || v.dstCut) := rfl

/-! ### The walkers -/

/-- A walker is free exactly when no call waits and none runs. -/
theorem Walker.busy_eq_false {v : Walker} : v.busy = false ↔ v.call = none ∧ v.walk = none := by
  simp [Walker.busy]

/-- Reset does not change what an observer may see of a `DST` (R282, U6). -/
@[simp] theorem Walker.applyReset_visibleDst (v : Walker) : v.applyReset.visibleDst = v.visibleDst := by
  simp [Walker.visibleDst, Walker.busy]

/-- A call made at a free walker. -/
theorem State.makeCall_of_free {s : State} (hc : s.call = none) (hw : s.walk = none) (c : Call) (src dst : Memory) :
    s.makeCall c src dst = { s with src := src, dst := dst, call := some c, dstCut := false } :=
  if_neg (by simp [Walker.busy, State.walker, hc, hw])

/-- A call made while the walker in front has one that has not returned. -/
theorem State.makeCall_of_busy {s : State} (h : s.call ≠ none ∨ s.walk ≠ none) (c : Call) (src dst : Memory) :
    s.makeCall c src dst = s.withOtherWalkers (s.otherWalkers ++ [⟨src, dst, some c, none, none, false⟩]) :=
  if_pos (by simpa [Walker.busy, State.walker, Option.isSome_iff_ne_none] using h)

/-- The turn passes to the first of the other walkers. -/
theorem State.nextWalker_cons {s : State} {v : Walker} {vs : List Walker} (h : s.otherWalkers = v :: vs) :
    s.nextWalker = (s.withWalker v).withOtherWalkers (vs ++ [s.walker]) := by
  unfold State.nextWalker
  split <;> simp_all

end Machine

/-- The invariant of a call speaks of the parameters and the two lengths alone. -/
theorem walkOk_congr {s t : State} {w : Walk} (h : WalkOk s w) (hp : t.params = s.params)
    (hs : t.src.len = s.src.len) (hd : t.dst.len = s.dst.len) : WalkOk t w :=
  ⟨h.countX, h.countY, h.pitch, h.bx_lt, h.bY_lt, h.cursor, hs ▸ h.source, hd ▸ h.dest, hp ▸ h.srcFits, hp ▸ h.dstFits⟩

/-- What the invariant says of a walker speaks of the parameters, the two buffers and the running call alone. -/
theorem walkerOk_congr {s t : State} (h : WalkerOk s) (hp : t.params = s.params) (hs : t.src = s.src)
    (hd : t.dst = s.dst) (hw : t.walk = s.walk) : WalkerOk t :=
  ⟨hs ▸ h.src_wf, hd ▸ h.dst_wf, fun w hw' => walkOk_congr (h.walk_ok w (hw ▸ hw')) hp (by rw [hs]) (by rw [hd])⟩

/-- The unit at the cursor lies in the source buffer (R51, R243). -/
theorem WalkOk.unit_fits {s : State} {w : Walk} (h : WalkOk s w) :
    w.sp + unitSize w.call.variant ≤ s.src.len := by
  have hx := h.bx_lt
  have hy := h.bY_lt
  rw [h.countX] at hx
  rw [h.countY] at hy
  rw [h.cursor, unitOffset, ← Nat.succ_mul]
  refine le_trans (Nat.mul_le_mul_right _ ?_) h.source
  calc w.bY * blockCount w.call.width + w.bx + 1
      ≤ w.bY * blockCount w.call.width + blockCount w.call.width := by omega
    _ = (w.bY + 1) * blockCount w.call.width := by ring
    _ ≤ blockCount w.call.height * blockCount w.call.width := Nat.mul_le_mul_right _ hy
    _ = blockCount w.call.width * blockCount w.call.height := by ring

/-- Every byte of the footprint lies in the destination buffer (R56, R58). -/
theorem WalkOk.footprint_fits {s : State} {w : Walk} (h : WalkOk s w) (px : Vector Pixel 16) :
    ∀ c ∈ footprintCells (blockOffset w.rowPitch w.bx w.bY) w.rowPitch px, c.1 < s.dst.len := by
  intro c hc
  obtain ⟨i, j, hc⟩ := mem_footprintCells.mp hc
  have hx := h.bx_lt
  have hy := h.bY_lt
  rw [h.countX] at hx
  rw [h.countY] at hy
  have hd := h.dest
  have hne : blockCount w.call.width * blockCount w.call.height ≠ 0 := by
    apply Nat.mul_ne_zero <;> omega
  rw [dstNeed, if_neg hne, ← h.pitch] at hd
  have hlast : c.1 ≤ blockOffset w.rowPitch w.bx w.bY + j.val * w.rowPitch + i.val * 4 + 3 := by
    rcases mem_pixelCells.mp hc with rfl | rfl | rfl | rfl <;> simp only <;> omega
  unfold blockOffset at hlast
  have hrow : w.bY * 4 * w.rowPitch + j.val * w.rowPitch ≤ (4 * blockCount w.call.height - 1) * w.rowPitch := by
    rw [← Nat.add_mul]
    apply Nat.mul_le_mul_right
    omega
  omega

end Sys2Proof
end

