-- ==== Sys2Proof/Tests/Slice0.lean ====
section
/-! SUPPORT. Tests: the well-formedness smoke, one decoding per constructor from a word written out of the encoding
tables (spec/30_encoding.md), one or two steps per instruction with the results of spec/95_test_vectors.md, and a
witness for every obligation that has hypotheses. -/

namespace Sys2Proof.Tests

open Machine Claim

set_option maxRecDepth 20000

/-! ### Helpers -/

/-- Core registers of zeros. -/
def zeroCore : Core :=
  ⟨0, ⟨0, 0, 0, 0, 0, 0, 0, 0⟩, ⟨0, 0, 0, 0, 0, 0, 0, 0⟩, .individual, ⟨0, 0, 0⟩,
    .individual ⟨0, 0, 0, 0, 0, 0, 0, 0, 0⟩, Vector.replicate 16 0, Vector.replicate 16 0, ⟨0, 0, 0⟩, ⟨0, 0, 0⟩, 0, 0, 0,
    Vector.replicate 4 ⟨0, 0, 0⟩, ⟨0, 0, 0⟩, ⟨0, 0, 0⟩, ⟨0, 0, 0⟩, ⟨0, 0, 0⟩, Vector.replicate 16 ⟨0, 0, 0, 0⟩, none⟩

/-- A machine with zeros in its core and nothing presented. -/
def zeroState : State := { State.reset with core := zeroCore }

/-- The state after serving one request. -/
def served (sel : Select) (bytes : List Byte) : State :=
  match step (zeroState.withRequests [⟨sel, bytes⟩]) with
  | .next t => t
  | _ => zeroState

/-- A column of the result: `PX[4i .. 4i+3]` as `RRGGBBAA` numbers. -/
def column (s : State) (i : Nat) : List Nat :=
  ((s.core.px.toList.drop (4 * i)).take 4).map fun p =>
    p.r.toNat * 2 ^ 24 + p.g.toNat * 2 ^ 16 + p.b.toNat * 2 ^ 8 + p.a.toNat

/-- The alphas of the result. -/
def alphas (s : State) : List Nat := s.core.px.toList.map fun p => p.a.toNat

/-- A machine with a call waiting on buffers of these lengths. -/
def called (variant : BitVec 1) (width height : BitVec 32) (srcLen dstLen : Nat) : State :=
  zeroState.makeCall ⟨variant, width, height⟩ ⟨srcLen, []⟩ ⟨dstLen, []⟩

/-- The status after one step. -/
def statusAfter (s : State) : Option Status :=
  match step s with
  | .next t => t.status
  | _ => none

/-! ### Well-formedness: each check refuses a term -/

/-- Format D, red: 0 - 1 is below 0. -/
theorem test_wf_refuses_differential_red :
    (Instr.etc2D ⟨0, 0, 0, 7, 0, 0, 0, 0, 0⟩ (Vector.replicate 16 0)).wf = false := by decide
/-- Format D, green: 31 + 1 is above 31. -/
theorem test_wf_refuses_differential_green :
    (Instr.etc2D ⟨0, 31, 0, 0, 1, 0, 0, 0, 0⟩ (Vector.replicate 16 0)).wf = false := by decide
/-- Format D, blue: 3 - 4 is below 0. -/
theorem test_wf_refuses_differential_blue :
    (Instr.etc2D ⟨0, 0, 3, 0, 0, 4, 0, 0, 0⟩ (Vector.replicate 16 0)).wf = false := by decide
/-- Format H whose `B0` would be 0x04. -/
theorem test_wf_refuses_h : (Instr.etc2H ⟨0, 0, 8, 0, 0, 0, 0, 0, 0⟩ (Vector.replicate 16 0)).wf = false := by decide
/-- Format P whose `B0` would be 0x04. -/
theorem test_wf_refuses_planar_b0 : (Instr.etc2P ⟨0, 0, 2, 0, 0, 0, 0, 0, 0, 0, 0⟩).wf = false := by decide
/-- Format P whose `B1` would be 0x04. -/
theorem test_wf_refuses_planar_b1 : (Instr.etc2P ⟨0, 0, 0, 2, 0, 0, 0, 0, 0, 0, 0⟩).wf = false := by decide

/-! ### Decoding: one word per constructor, written bit by bit from R83 to R89 -/

theorem test_decode_individual :
    decode .color [0b10100101, 0b00111100, 0b11110001, 0b11000101, 0b10000000, 0b00000001, 0b00000010, 0b00000001] =
      .ok (.etc2I ⟨0xA, 0x3, 0xF, 0x5, 0xC, 0x1, 6, 1, 1⟩ #v[3, 0, 0, 0, 0, 0, 0, 0, 0, 1, 0, 0, 0, 0, 0, 2]) := by
  decide
theorem test_decode_differential :
    decode .color [0b10000011, 0b11111111, 0b00101100, 0b01011110, 0b00000000, 0b10000000, 0b00000001, 0b00000000] =
      .ok (.etc2D ⟨16, 31, 5, 3, 7, 4, 2, 7, 0⟩ #v[0, 0, 0, 0, 0, 0, 0, 2, 1, 0, 0, 0, 0, 0, 0, 0]) := by
  decide
theorem test_decode_t :
    decode .color [0b11101011, 0b10010110, 0b11100010, 0b11010110, 0, 0, 0, 0] =
      .ok (.etc2T ⟨7, 9, 6, 14, 2, 13, 1, 0⟩ (Vector.replicate 16 0)) := by
  decide
theorem test_decode_h :
    decode .color [0b00110010, 0b11111011, 0b01011001, 0b10100110, 0xFF, 0xFF, 0xFF, 0xFF] =
      .ok (.etc2H ⟨0, 6, 5, 14, 11, 3, 4, 1, 0⟩ (Vector.replicate 16 3)) := by
  decide
theorem test_decode_planar :
    decode .color [0b01010100, 0b11100110, 0b00001110, 0b10110110, 0b10000011, 0b00111101, 0b01110010, 0b11000111] =
      .ok (.etc2P ⟨0, 1, 42, 51, 13, 26, 65, 39, 43, 75, 7⟩) := by
  decide
theorem test_decode_alpha :
    decode .alpha [0b11001000, 0b01011001, 0b00101001, 0b11001011, 0b10111000, 0b11100000, 0b10100111, 0b00101110] =
      .ok (.eacA8 ⟨200, 5, 9⟩ #v[1, 2, 3, 4, 5, 6, 7, 0, 7, 0, 1, 2, 3, 4, 5, 6]) := by
  decide
theorem test_decode_decrgb :
    decodeTableWord 72 0xF2503CFBCCCCAAAA =
      some (.decrgb ⟨0xF2, 0x50, 0x3C, 0xFB, 0xCC, 0xCC, 0xAA, 0xAA⟩) := by
  decide
theorem test_decode_decrgba :
    decodeTableWord 136 0x1FAF0053977053977F2503CFBCCCCAAAA =
      some (.decrgba ⟨0xFA, 0xF0, 0x05, 0x39, 0x77, 0x05, 0x39, 0x77⟩
        ⟨0xF2, 0x50, 0x3C, 0xFB, 0xCC, 0xCC, 0xAA, 0xAA⟩) := by
  decide
theorem test_decode_classify : decode .classify [1, 2, 3, 4] = .ok (.classify 1 2 3 4) := by decide
theorem test_decode_idx2 : decodeTableWord 32 0x12345678 = some (.idx2 0x12 0x34 0x56 0x78) := by decide
theorem test_decode_idx3 :
    decodeTableWord 48 0x0123456789AB = some (.idx3 0x01 0x23 0x45 0x67 0x89 0xAB) := by decide
theorem test_decode_color_word :
    (decodeTableWord 64 0x0000000200000000).isSome ∧ decodeTableWord 65 (2 ^ 64) = none := by decide

/-! ### One step per instruction, results from spec/95_test_vectors.md -/

/-- V4, columns 0 and 2: the flip bit is 1, the table rows differ. -/
theorem test_individual_flipped :
    let s := served .color [0xF0, 0x87, 0x1E, 0xED, 0xCC, 0xCC, 0xAA, 0xAA]
    column s 0 = [0xFFB740FF, 0xFFFFC8FF, 0x006AE1FF, 0x004DC4FF] ∧ column s 2 = column s 0 := by decide
/-- V2, columns 1 and 2: the flip bit is 0. -/
theorem test_individual_unflipped :
    let s := served .color [0xF0, 0x87, 0x1E, 0xEC, 0xCC, 0xCC, 0xAA, 0xAA]
    column s 1 = [0xFFB740FF, 0xFFFFC8FF, 0xD05900FF, 0x480000FF] ∧
    column s 2 = [0x0D84FBFF, 0x2AA1FFFF, 0x006AE1FF, 0x004DC4FF] := by decide
/-- V13, columns 0 and 3: negative deltas. -/
theorem test_differential :
    let s := served .color [0xA3, 0x54, 0x2A, 0x3A, 0xCC, 0xCC, 0xAA, 0xAA]
    column s 0 = [0xAA572EFF, 0xB6633AFF, 0xA04D24FF, 0x944118FF] ∧
    column s 3 = [0xDE525AFF, 0xFF9BA3FF, 0x9C1018FF, 0x530000FF] := by decide
/-- V20: the four paint colors. -/
theorem test_t :
    column (served .color [0xF2, 0x50, 0x3C, 0xFB, 0xCC, 0xCC, 0xAA, 0xAA]) 0 =
      [0xAA5500FF, 0x53ECFFFF, 0x33CCFFFF, 0x13ACDFFF] := by decide
/-- V29: base 1 packs below base 2, so the ordering bit is 0. -/
theorem test_h_order_zero :
    let s := served .color [0x1D, 0xF3, 0x62, 0x4E, 0xCC, 0xCC, 0xAA, 0xAA]
    s.core.ord = 0 ∧ column s 0 = [0x4AD27DFF, 0x1CA44FFF, 0xE35BB0FF, 0xB52D82FF] := by decide
/-- V30: equal base colors, so the ordering bit is 1. -/
theorem test_h_order_equal :
    column (served .color [0x3B, 0xF3, 0xBB, 0xBA, 0xCC, 0xCC, 0xAA, 0xAA]) 3 =
      [0x7D7D7DFF, 0x717171FF, 0x7D7D7DFF, 0x717171FF] := by decide
/-- V38, columns 1 and 3: a negative numerator is floored. -/
theorem test_planar :
    let s := served .color [0x7F, 0x7F, 0xFB, 0x82, 0x00, 0x04, 0x10, 0x20]
    column s 1 = [0xBFBFBFFF, 0xA0A0A0FF, 0x818081FF, 0x626162FF] ∧
    column s 3 = [0x404040FF, 0x212021FF, 0x010101FF, 0x000000FF] := by decide
/-- V48: the alphas saturate, the colors are left alone. -/
theorem test_alpha :
    let s := served .alpha [0xFA, 0xF0, 0x05, 0x39, 0x77, 0x05, 0x39, 0x77]
    alphas s = [205, 160, 115, 25, 255, 255, 255, 255, 205, 160, 115, 25, 255, 255, 255, 255] ∧
    column s 0 = [205, 160, 115, 25] := by decide
/-- The classifier at its boundary: `B0 = 0x05` is an overflow byte, 0 + (-3). -/
theorem test_classify :
    (served .classify [0x05, 0, 0, 2]).core.mode = .t ∧ (served .classify [0x05, 0, 0, 2]).core.sums = ⟨-3, 0, 0⟩ ∧
    (served .classify [0xFF, 0x1C, 0, 2]).core.mode = .h ∧ (served .classify [0xFF, 0xF8, 0xF9, 2]).core.mode = .planar ∧
    (served .classify [0x05, 0x05, 0x05, 0xFD]).core.mode = .individual := by decide
/-- The `IDX2` vector `12 34 56 78`. -/
theorem test_idx2 :
    (served .idx2 [0x12, 0x34, 0x56, 0x78]).core.idx2.toList = [0, 0, 2, 1, 3, 3, 1, 0, 0, 3, 1, 0, 3, 0, 1, 0] := by
  decide
/-- The `IDX3` vector `01 23 45 67 89 AB`. -/
theorem test_idx3 :
    (served .idx3 [0x01, 0x23, 0x45, 0x67, 0x89, 0xAB]).core.idx3.toList =
      [0, 0, 2, 2, 1, 5, 0, 5, 3, 1, 7, 0, 4, 6, 5, 3] := by
  decide
/-- V1: the all-zero block. -/
theorem test_decrgb :
    let s := served .decrgb [0, 0, 0, 0, 0, 0, 0, 0]
    column s 0 = [0x020202FF, 0x020202FF, 0x020202FF, 0x020202FF] ∧ s.core.response = some s.core.px := by decide
/-- V57: a T block with alpha. -/
theorem test_decrgba :
    let s := served .decrgba [0xFA, 0xF0, 0x05, 0x39, 0x77, 0x05, 0x39, 0x77, 0xF2, 0x50, 0x3C, 0xFB, 0xCC, 0xCC, 0xAA,
      0xAA]
    column s 0 = [0xAA5500CD, 0x53ECFFA0, 0x33CCFF73, 0x13ACDF19] ∧ s.core.response = some s.core.px := by decide
/-- From reset, an opcode-table word runs as the very next step. -/
theorem test_reset_runs_a_table_word :
    step (State.reset.withFetchWord 64 0x0000000200000000) =
      exec (decodeColor ⟨0, 0, 0, 2, 0, 0, 0, 0⟩) State.reset := rfl
/-- The error ladder of program P5, one length below each bound. -/
theorem test_error_ladder :
    statusAfter (called 0 5 5 31 0) = some (.error (.sourceTooShort 31 32)) ∧
    statusAfter (called 0 5 5 32 99) = some (.error (.destinationTooSmall 99 100)) ∧
    statusAfter (called 0 5 5 32 100) = some (.error (.accessOutOfRange 100 172)) ∧
    statusAfter (called 0 5 5 32 171) = some (.error (.accessOutOfRange 171 172)) ∧
    statusAfter (called 0 0 7 0 112) = some .ok := by decide
/-- A request of the wrong length is refused by name. -/
theorem test_wrong_length_refused :
    step (zeroState.withRequests [⟨.decrgb, [1, 2, 3]⟩]) = .refused (.undecodable (.wrongLength .decrgb 3)) := rfl

/-! ### Witnesses: the hypotheses of each statement are met, clause by clause, at boundary values -/

/-- DecodeOfEncodeIsTheInstruction: formats D, H and P with the sums 0 and 31. -/
theorem witness_wf :
    (Instr.etc2D ⟨31, 1, 0, 0, 7, 0, 0, 0, 0⟩ (Vector.replicate 16 0)).wf = true ∧
    (Instr.etc2H ⟨0, 0, 0, 0, 0, 0, 0, 0, 0⟩ (Vector.replicate 16 0)).wf = true ∧
    (Instr.etc2P ⟨1, 1, 60, 63, 0, 0, 0, 0, 0, 0, 0⟩).wf = true := by decide
/-- EncodeOfDecodeIsTheBytes: a block that decodes, for the first and the last overflow byte of R82. -/
theorem witness_decoded :
    (∃ i, decode .color [0x04, 0, 0, 2, 0, 0, 0, 0] = .ok i) ∧
    (∃ i, decode .color [0xFF, 0xFB, 0, 2, 0, 0, 0, 0] = .ok i) := ⟨⟨_, rfl⟩, ⟨_, rfl⟩⟩
/-- OnlyTheLengthIsRefused: the right length and one to either side. -/
theorem witness_lengths :
    ([1, 2, 3, 4] : List Byte).length = Select.idx2.byteLength ∧
    ([1, 2, 3] : List Byte).length ≠ Select.idx2.byteLength ∧
    ([1, 2, 3, 4, 5] : List Byte).length ≠ Select.idx2.byteLength := by decide
/-- ColorBlockSelectsOneBody: the diff bit 0; the sums -1 and 32 at each of the three tests; the sums 0 and 31. -/
theorem witness_color_clauses :
    bit 0xFD 1 = 0 ∧ bit 2 1 = 1 ∧ sumOfByte 0x07 = -1 ∧ sumOfByte 0xF9 = 32 ∧ sumOfByte 0x00 = 0 ∧
    sumOfByte 0xF8 = 31 ∧ sumOfByte 0x0F = 0 ∧ sumOfByte 0xF1 = 31 := by decide
/-- ExtendersMapTheirRangeMonotonically: two neighbours. -/
theorem witness_extenders : (14 : BitVec 4) < 15 ∧ (30 : BitVec 5) < 31 ∧ (62 : BitVec 6) < 63 ∧ (126 : BitVec 7) < 127 := by
  decide
/-- ClampSaturatesToTheNearerBound: one below, the lower bound, the upper bound, one above. -/
theorem witness_clamp :
    (0 : Int) ≤ 255 ∧ (-1 : Int) < 0 ∧ (255 : Int) < 256 ∧ (0 : Int) ≤ 0 ∧ (0 : Int) ≤ 255 ∧ (0 : Int) ≤ 255 ∧
    (255 : Int) ≤ 255 := by decide
/-- DifferentialBodyRendersItsSubblocks: sums at both bounds. -/
theorem witness_differential :
    DifferentialFields.wf ⟨31, 0, 4, 0, 0, 4, 7, 7, 1⟩ = true ∧ DifferentialFields.wf ⟨28, 31, 1, 3, 7, 7, 0, 7, 0⟩ = true := by
  decide
/-- PlanarOriginAndFlatBlock: three identical corners that are not black. -/
theorem witness_flat :
    let f : PlanarFields := ⟨0, 0, 63, 127, 63, 63, 127, 63, 63, 127, 63⟩
    f.hR = f.oR ∧ f.vR = f.oR ∧ f.hG = f.oG ∧ f.vG = f.oG ∧ f.hB = f.oB ∧ f.vB = f.oB := by decide
/-- MultiplierZeroGivesBaseEverywhere. -/
theorem witness_multiplier_zero : (⟨128, 0, 15⟩ : AlphaFields).mult = 0 := rfl

/-- A machine with two instances, other registers and another latency. -/
def twoCores : State :=
  { zeroState with
    core := { zeroCore with op := 1, mode := .planar, px := Vector.replicate 16 ⟨1, 2, 3, 4⟩ }
    otherCores := [zeroCore]
    params := { defaultParams with latency := some 5 } }

/-- ResponseIsAFunctionOfTheRequest: two machines that differ in registers, instances and latency. -/
theorem witness_response :
    twoCores.params.imodRows = zeroState.params.imodRows ∧ twoCores.params.amodRows = zeroState.params.amodRows ∧
    twoCores.params.legacyNonflipBase1 = zeroState.params.legacyNonflipBase1 ∧ twoCores.core ≠ zeroState.core := by decide
/-- CoresAndLatencyDoNotShowInARun: the same two machines. -/
theorem witness_same_but_cores : SameButCores zeroState twoCores :=
  ⟨rfl, rfl, rfl, rfl, rfl, rfl, rfl, rfl, rfl, rfl, rfl, rfl⟩
/-- UnitsLeaveTheRequestAlone: an inner unit, run. -/
theorem witness_units :
    (Instr.idx2 1 2 3 4).select ≠ .decrgb ∧ (Instr.idx2 1 2 3 4).select ≠ .decrgba ∧
    ∃ t, exec (.idx2 1 2 3 4) zeroState = .next t := ⟨by decide, by decide, _, rfl⟩

/-- A buffer of zeros is in canonical form. -/
theorem empty_wf (n : Nat) : (⟨n, []⟩ : Memory).wf := ⟨List.Pairwise.nil, by rintro _ ⟨⟩⟩

/-- A walk of a 5 by 5 image without alpha, at block `(bx, by)`. -/
def walking (bx bY : Nat) : State :=
  { zeroState with
    src := ⟨32, []⟩, dst := ⟨172, []⟩, walk := some ⟨⟨0, 5, 5⟩, 2, 2, 20, bx, bY, (bY * 2 + bx) * 8⟩ }

/-- The invariant holds at every block of a walk on buffers of the smallest size that passes the checks. -/
theorem witness_walking {bx bY : Nat} (hx : bx < 2) (hy : bY < 2) : Inv (walking bx bY) where
  src_wf := empty_wf 32
  dst_wf := empty_wf 172
  walk_ok := by
    rintro w ⟨⟩
    have hcursor : (bY * 2 + bx) * 8 = unitOffset ⟨0, 5, 5⟩ bx bY := by
      rw [unitOffset, show blockCount 5 = 2 by decide, show unitSize 0 = 8 by decide]
    exact ⟨(by decide : 2 = blockCount 5), (by decide : 2 = blockCount 5), (by decide : 20 = pitchOf 5), hx, hy, hcursor,
      (by decide : srcNeed ⟨0, 5, 5⟩ ≤ 32), (by decide : dstNeed ⟨0, 5, 5⟩ ≤ 172), rfl, rfl⟩
  others_ok := by rintro _ ⟨⟩
/-- StepKeepsTheInvariant, InvariantStatesNeverFault, StepWritesOnlyTheDestinationOfAWalk: a walk's step, the last one
of its call and an earlier one. -/
theorem witness_step_of_a_walk :
    Inv (walking 0 0) ∧ (∃ t, step (walking 0 0) = .next t) ∧ Inv (walking 1 1) ∧ ∃ t, step (walking 1 1) = .next t :=
  ⟨witness_walking (by decide) (by decide), ⟨_, rfl⟩, witness_walking (by decide) (by decide), ⟨_, rfl⟩⟩
/-- WalkStepDecodesOneBlock, CoresTakeTurnsInTheWalk: inside a row, at the end of a row, at the last block. -/
theorem witness_walk_clauses :
    (Inv (walking 0 0) ∧ (walking 0 0).requests = [] ∧
      (walking 0 0).walk = some ⟨⟨0, 5, 5⟩, 2, 2, 20, 0, 0, 0⟩ ∧ 0 + 1 < blockCount 5) ∧
    (Inv (walking 1 0) ∧ (walking 1 0).requests = [] ∧
      (walking 1 0).walk = some ⟨⟨0, 5, 5⟩, 2, 2, 20, 1, 0, 8⟩ ∧ 1 + 1 = blockCount 5 ∧ 0 + 1 < blockCount 5) ∧
    (Inv (walking 1 1) ∧ (walking 1 1).requests = [] ∧
      (walking 1 1).walk = some ⟨⟨0, 5, 5⟩, 2, 2, 20, 1, 1, 24⟩ ∧ 1 + 1 = blockCount 5 ∧ 1 + 1 = blockCount 5) :=
  ⟨⟨witness_walking (by decide) (by decide), rfl, rfl, by decide⟩,
    ⟨witness_walking (by decide) (by decide), rfl, rfl, by decide, by decide⟩,
    ⟨witness_walking (by decide) (by decide), rfl, rfl, by decide, by decide⟩⟩
/-- StepWritesOnlyTheDestinationOfAWalk: its last clause, with a request and with no walk. -/
theorem witness_quiet_steps :
    (∃ t, step ((walking 0 0).withRequests [⟨.idx2, [1, 2, 3, 4]⟩]) = .next t) ∧
    (∃ t, step zeroState = .next t) ∧ zeroState.walk = none := ⟨⟨_, rfl⟩, ⟨_, rfl⟩, rfl⟩

/-- The address width that program P5's call does not fit by one: `DST_NEED` is 172. -/
def narrow : State := { called 0 5 5 32 172 with params := { defaultParams with addrW := some 7 } }

/-- OnlyAnUnfitCallIsRefused. -/
theorem witness_refused : RequestsOk narrow ∧ step narrow = .refused (.addressWidth 7 32 172) :=
  ⟨by rintro _ ⟨⟩, rfl⟩
/-- A waiting call of 16 by 1 pixels, which needs 32 bytes of `SRC` and 256 of `DST`, on an address width. -/
def wide (addrW : Nat) : State := { called 0 16 1 32 256 with params := { defaultParams with addrW := some addrW } }

/-- UnfitCallIsRefused: each clause, at the bound itself: 16 by 1 pixels need 32 bytes of `SRC` and more of `DST`, 4 by 4
pixels 64 bytes of `DST` and 8 of `SRC`. -/
theorem witness_unfit :
    ((wide 5).requests = [] ∧ (wide 5).walk = none ∧ (wide 5).call = some ⟨0, 16, 1⟩ ∧ (wide 5).params.addrW = some 5 ∧
      2 ^ 5 ≤ srcNeed ⟨0, 16, 1⟩) ∧
    (narrow.requests = [] ∧ narrow.walk = none ∧ narrow.call = some ⟨0, 5, 5⟩ ∧ narrow.params.addrW = some 7 ∧
      2 ^ 7 ≤ dstNeed ⟨0, 5, 5⟩) ∧
    2 ^ 6 ≤ dstNeed ⟨0, 4, 4⟩ := by decide
/-- StepRunsTheDecodedRequest. -/
theorem witness_request :
    (zeroState.withRequests [⟨.idx2, [1, 2, 3, 4]⟩]).requests = ⟨.idx2, [1, 2, 3, 4]⟩ :: [] ∧
    decode .idx2 [1, 2, 3, 4] = .ok (.idx2 1 2 3 4) := ⟨rfl, rfl⟩
/-- IdleStepChangesNothing. -/
theorem witness_idle : zeroState.requests = [] ∧ zeroState.walk = none ∧ zeroState.call = none := ⟨rfl, rfl, rfl⟩

/-- DerivedValuesOfACall: with and without blocks. -/
theorem witness_block_counts : blockCount 0 * blockCount 7 = 0 ∧ blockCount 1 * blockCount 1 ≠ 0 := by decide
/-- DestinationNeedAgainstThreshold: the smallest image, an aligned one, widths 4 and 5, heights 4 and 5. -/
theorem witness_need_clauses :
    (1 ≤ (5 : BitVec 32).toNat ∧ 1 ≤ (1 : BitVec 32).toNat) ∧
    ((4 : BitVec 32).toNat % 4 = 0 ∧ ((1 : BitVec 32).toNat % 4 = 0 ∨ (1 : BitVec 32).toNat ≤ 4)) ∧
    ¬ ((5 : BitVec 32).toNat % 4 = 0 ∧ ((4 : BitVec 32).toNat % 4 = 0 ∨ (4 : BitVec 32).toNat ≤ 4)) ∧
    ¬ ((4 : BitVec 32).toNat % 4 = 0 ∧ ((5 : BitVec 32).toNat % 4 = 0 ∨ (5 : BitVec 32).toNat ≤ 4)) := by decide
/-- FootprintsDisjointExactlyWhenAligned: widths on both sides, and two overlapping footprints of the 5 by 5 image. -/
theorem witness_footprints :
    (1 ≤ (5 : BitVec 32).toNat ∧ (8 : BitVec 32).toNat % 4 = 0 ∧ (3 : BitVec 32).toNat ≤ 4) ∧
    ¬ ((5 : BitVec 32).toNat % 4 = 0 ∨ (5 : BitVec 32).toNat ≤ 4) ∧
    byteAddr ⟨0, 5, 5⟩ 1 0 1 0 0 = byteAddr ⟨0, 5, 5⟩ 0 0 0 1 0 := by decide

/-- A waiting call on any buffers meets `CallWaits`. -/
theorem witness_call_waits (variant : BitVec 1) (width height : BitVec 32) (srcLen dstLen : Nat) :
    CallWaits (called variant width height srcLen dstLen) ⟨variant, width, height⟩ :=
  ⟨rfl, rfl, rfl, rfl, rfl, empty_wf _, empty_wf _⟩
/-- FailedCallReportsTheFirstError: each clause one byte below its bound (program P5). -/
theorem witness_failed_calls :
    (CallWaits (called 0 5 5 31 0) ⟨0, 5, 5⟩ ∧ (called 0 5 5 31 0).src.len < srcNeed ⟨0, 5, 5⟩) ∧
    (CallWaits (called 0 5 5 32 99) ⟨0, 5, 5⟩ ∧ srcNeed ⟨0, 5, 5⟩ ≤ (called 0 5 5 32 99).src.len ∧
      (called 0 5 5 32 99).dst.len < dstMin ⟨0, 5, 5⟩) ∧
    (CallWaits (called 0 5 5 32 171) ⟨0, 5, 5⟩ ∧ srcNeed ⟨0, 5, 5⟩ ≤ (called 0 5 5 32 171).src.len ∧
      dstMin ⟨0, 5, 5⟩ ≤ (called 0 5 5 32 171).dst.len ∧ (called 0 5 5 32 171).dst.len < dstNeed ⟨0, 5, 5⟩) :=
  ⟨⟨witness_call_waits .., by decide⟩, ⟨witness_call_waits .., by decide, by decide⟩,
    ⟨witness_call_waits .., by decide, by decide, by decide⟩⟩
/-- CallWithoutBlocksReturnsOk: no width, no height; the smallest destination that passes is 16 bytes a row. -/
theorem witness_no_blocks :
    (CallWaits (called 0 0 7 0 112) ⟨0, 0, 7⟩ ∧ ChecksPass (called 0 0 7 0 112) ⟨0, 0, 7⟩) ∧
    (CallWaits (called 1 4 0 0 0) ⟨1, 4, 0⟩ ∧ ChecksPass (called 1 4 0 0 0) ⟨1, 4, 0⟩) :=
  ⟨⟨witness_call_waits .., ⟨by decide, by decide, by decide⟩⟩, ⟨witness_call_waits .., ⟨by decide, by decide, by decide⟩⟩⟩
/-- WalkBeginsAtTheFirstBlock, CallReturnsOkAfterEveryBlock, LaterBlockStandsInTheDestination: buffers of exactly the
sizes needed, with and without alpha. -/
theorem witness_checks_pass :
    (CallWaits (called 0 5 5 32 172) ⟨0, 5, 5⟩ ∧ ChecksPass (called 0 5 5 32 172) ⟨0, 5, 5⟩ ∧
      (5 : BitVec 32) ≠ 0 ∧ (5 : BitVec 32) ≠ 0) ∧
    (CallWaits (called 1 1 1 16 64) ⟨1, 1, 1⟩ ∧ ChecksPass (called 1 1 1 16 64) ⟨1, 1, 1⟩ ∧
      (1 : BitVec 32) ≠ 0 ∧ (1 : BitVec 32) ≠ 0) :=
  ⟨⟨witness_call_waits .., ⟨by decide, by decide, by decide⟩, by decide, by decide⟩,
    ⟨witness_call_waits .., ⟨by decide, by decide, by decide⟩, by decide, by decide⟩⟩
/-- LaterBlockStandsInTheDestination: byte 20 of the 5 by 5 image is in blocks `(0, 0)` and `(1, 0)`, and in no later
one, so that `(1, 0)` stands there. -/
theorem witness_later_block :
    byteAddr ⟨0, 5, 5⟩ 0 0 0 1 0 = 20 ∧ byteAddr ⟨0, 5, 5⟩ 1 0 1 0 0 = 20 ∧
    ∀ i j ch : Fin 4, byteAddr ⟨0, 5, 5⟩ 0 1 i j ch ≠ 20 ∧ byteAddr ⟨0, 5, 5⟩ 1 1 i j ch ≠ 20 := by decide

/-- A buffer of four bytes. -/
def smallBuffer : Memory := ⟨4, [(0, 7), (3, 9)]⟩

/-- CanonicalBuffersAreTheirBytes: two buffers, written in different orders. -/
theorem witness_buffers :
    smallBuffer.wf ∧ Memory.ofBytes [7, 0, 0, 9] = smallBuffer ∧
    ((⟨4, []⟩ : Memory).storeAll [(3, 9), (1, 5), (0, 7), (1, 0)]) = smallBuffer := by decide
/-- AccessesStayInsideTheBuffer: up to the last byte, one byte beyond, a store to the first offset outside, and a byte
stored twice with bytes before, between and after. -/
theorem witness_accesses :
    smallBuffer.wf ∧ 1 + 3 ≤ smallBuffer.len ∧ smallBuffer.len < 1 + 4 ∧
    (∃ c ∈ ([(0, 1), (4, 2)] : List Host.Cell), smallBuffer.len ≤ c.1) ∧
    (∀ c ∈ ([(0, 1), (3, 0)] : List Host.Cell), c.1 < smallBuffer.len) ∧
    (∀ c ∈ ([(3, 1), (0, 5)] ++ (3, 2) :: [(0, 6), (1, 4)] : List Host.Cell), c.1 < smallBuffer.len) ∧
    (∀ c ∈ ([(0, 6), (1, 4)] : List Host.Cell), c.1 ≠ 3) := by decide

/-- Two calls at once: the 5 by 5 image is at its block `(0, 0)` and a call on an image of one block waits behind it. -/
def twoCalls : State := (walking 0 0).makeCall ⟨1, 4, 4⟩ ⟨16, []⟩ ⟨64, []⟩

/-- The same call, waiting on a machine that had nothing to do. -/
def oneCall : State := zeroState.makeCall ⟨1, 4, 4⟩ ⟨16, []⟩ ⟨64, []⟩

/-- AllCoresLeaveResetAlike: the smallest number of instances. -/
theorem witness_reset_cores : 1 ≤ (1 : Nat) := Nat.le_refl 1
/-- ResetKeepsTheBuffersAndCutsTheCall: a call that runs, one that waits, none, and one behind another. -/
theorem witness_reset_clauses :
    (walking 1 0).walk ≠ none ∧ oneCall.call ≠ none ∧
    (zeroState.call = none ∧ zeroState.walk = none ∧ zeroState.dstCut = false) ∧
    twoCalls.otherWalkers[0]? = some ⟨⟨16, []⟩, ⟨64, []⟩, some ⟨1, 4, 4⟩, none, none, false⟩ := by decide
/-- NewCallLeavesARunningCallAlone: a free walker, one whose call runs, one whose call waits. -/
theorem witness_new_call :
    (zeroState.call = none ∧ zeroState.walk = none) ∧ (walking 0 0).walk ≠ none ∧ oneCall.call ≠ none := by decide
/-- OutsideActionsKeepTheInvariant: a running call with another behind it, and buffers for a third. -/
theorem witness_outside_actions : Inv twoCalls ∧ (⟨0, []⟩ : Memory).wf ∧ smallBuffer.wf :=
  ⟨⟨walkerOk_congr (witness_walking (bx := 0) (bY := 0) (by decide) (by decide)).toWalkerOk rfl rfl rfl rfl, by
    rintro v (_ | ⟨_, ⟨⟩⟩)
    exact ⟨empty_wf 16, empty_wf 64, by rintro w ⟨⟩⟩⟩, empty_wf 0, by decide⟩
/-- CallsOnSeparateBuffersDoNotInteract: both steps run. -/
theorem witness_two_calls :
    twoCalls.requests = [] ∧ (∃ v, twoCalls.otherWalkers = [v]) ∧ (∃ t, step twoCalls = .next t) ∧
    ∃ u, step twoCalls.nextWalker = .next u := ⟨rfl, ⟨_, rfl⟩, ⟨_, rfl⟩, ⟨_, rfl⟩⟩

end Sys2Proof.Tests
end

section
/-! PROOFS. The family of spec/00_scope.md: what `MemRead` and `MemWrite` answer at the boundary of a buffer (R14, R50,
R62), and what reset leaves (R6, R36, R120 to R122, R270, R280). -/

namespace Sys2Proof.Machine

/-! ### Accesses at the boundary of a buffer -/

/-- Where `MemRead` has no answer (R50). -/
theorem memRead_eq_none {m : Memory} {a n : Nat} : memRead m a n = none ↔ m.len < a + n := by
  simp [Option.eq_none_iff_forall_ne_some, memRead_eq_some]

/-- Where `MemWrite` has no answer: one byte outside is enough (R50). -/
theorem memWrite_eq_none {m : Memory} {cs : List Host.Cell} : memWrite m cs = none ↔ ∃ c ∈ cs, m.len ≤ c.1 := by
  simp [Option.eq_none_iff_forall_ne_some, memWrite_eq_some]

/-- `MemWrite` inside the buffer stores its bytes in order (R50). -/
theorem memWrite_of_inRange {m : Memory} {cs : List Host.Cell} (h : ∀ c ∈ cs, c.1 < m.len) :
    memWrite m cs = some (m.storeAll cs) :=
  memWrite_eq_some.mpr ⟨h, rfl⟩

/-- Storing one list after another is storing their concatenation. -/
theorem Memory.storeAll_append (m : Memory) (xs ys : List Host.Cell) :
    m.storeAll (xs ++ ys) = (m.storeAll xs).storeAll ys := by
  induction xs generalizing m with
  | nil => rfl
  | cons c rest ih => exact ih (m.store c.1 c.2)

/-- A byte stands after the store when no later one of the list names its offset; earlier ones do not matter. -/
theorem Memory.read_storeAll_last (m : Memory) (pre post : List Host.Cell) (c : Host.Cell) (h : m.wf)
    (hr : ∀ x ∈ pre ++ c :: post, x.1 < m.len) (hlast : ∀ x ∈ post, x.1 ≠ c.1) :
    (m.storeAll (pre ++ c :: post)).read c.1 = c.2 := by
  have hpre : (m.storeAll pre).wf := m.storeAll_wf pre h
  have hc : c.1 < (m.storeAll pre).len := by simpa using hr c (by simp)
  have hpost : ∀ x ∈ post, x.1 < ((m.storeAll pre).store c.1 c.2).len := fun x hx => by
    simpa using hr x (by simp [hx])
  calc (m.storeAll (pre ++ c :: post)).read c.1
      = (((m.storeAll pre).store c.1 c.2).storeAll post).read c.1 := by
        rw [Memory.storeAll_append, Memory.storeAll]
    _ = ((m.storeAll pre).store c.1 c.2).read c.1 :=
        Memory.read_storeAll_of_notMem _ _ _ (Memory.store_wf _ _ _ hpre) hpost hlast
    _ = c.2 := by rw [Memory.read_store _ _ _ _ hpre hc, if_pos rfl]

/-! ### Reset -/

/-- The core instances after reset: `n` of them, all as `Core.reset` has them (R270, R280). -/
theorem State.resetWith_cores (p : Params) {n : Nat} (hn : 1 ≤ n) (src dst : Memory) :
    (State.resetWith p n src dst).core :: (State.resetWith p n src dst).otherCores = List.replicate n Core.reset := by
  rw [State.resetWith_core, State.resetWith_otherCores, ← List.replicate_succ, Nat.sub_add_cancel hn]

/-- No call hides the caller's `DST` after reset. -/
@[simp] theorem State.resetWith_visibleDst (p : Params) (n : Nat) (src dst : Memory) :
    (State.resetWith p n src dst).visibleDst = some dst := by
  simp [State.visibleDst, Walker.visibleDst, Walker.busy, State.walker]

/-- Reset leaves no response owed (R280). -/
@[simp] theorem Core.reset_response : Core.reset.response = none := rfl

/-- The reset state is reset at the defaults, with one core instance and the caller's buffers not yet allocated (R6). -/
theorem State.reset_eq_resetWith : State.reset = State.resetWith defaultParams 1 ⟨0, []⟩ ⟨0, []⟩ := rfl

end Sys2Proof.Machine

namespace Sys2Proof.Scope

open Machine

/-- Settles O53: each clause is the lemma that says what the access answers there; the last byte of the list that names
an offset stands because the bytes after it leave that offset alone. -/
theorem accessesStayInsideTheBuffer : Obligations.AccessesStayInsideTheBuffer := by
  intro m a n cs hm
  refine ⟨fun hin => memRead_eq_some.mpr ⟨hin, rfl⟩, memRead_eq_none.mpr, memWrite_eq_none.mpr, fun hin => ?_,
    fun pre post c hin hlast => ?_⟩
  · have hw := memWrite_of_inRange hin
    exact ⟨_, hw, memWrite_wf hm hw, memWrite_len hw, fun _ hx => memWrite_read_of_notMem hm hw hx⟩
  · exact ⟨_, memWrite_of_inRange hin, m.read_storeAll_last pre post c hm hin hlast⟩

/-- Settles O31: the fields after a reset at the defaults, and the three tables written out. -/
theorem resetIsIdleWithItsTables : Obligations.ResetIsIdleWithItsTables := by
  unfold Obligations.ResetIsIdleWithItsTables
  simp only [State.reset_eq_resetWith, State.resetWith_requests, State.resetWith_core, Core.reset_response,
    State.resetWith_otherCores, State.resetWith_call, State.resetWith_walk, State.resetWith_status,
    State.resetWith_dstCut, State.resetWith_otherWalkers, State.resetWith_params, Nat.sub_self, List.replicate_zero,
    true_and]
  exact ⟨rfl, rfl, rfl, rfl, rfl, rfl⟩

/-- Settles O55: the instances are `n` copies of `Core.reset`, which owes no response. -/
theorem allCoresLeaveResetAlike : Obligations.AllCoresLeaveResetAlike := by
  refine ⟨fun p n src dst hn => ?_, State.reset_eq_resetWith⟩
  have hcores := State.resetWith_cores p hn src dst
  have hready : ∀ c ∈ List.replicate n Core.reset, c.response = none := fun c hc => by
    rw [List.eq_of_mem_replicate hc, Core.reset_response]
  exact ⟨hcores, hcores ▸ hready, by simp⟩

end Sys2Proof.Scope
end

section
/-! PROOFS. The family of spec/10_state.md: what an instruction writes and what it leaves alone (R20 to R31), what a step
can do to the buffers, the tables and the other walkers (R33 to R35), and what reset and the start of a call leave (R36). -/

namespace Sys2Proof

open Machine Claim

/-- The sum of a byte in quotient and remainder (R160). -/
theorem byteSum_eq_sumOfByte (b : Byte) : byteSum b = sumOfByte b := by
  have hbase : (b.extractLsb 7 3).toNat = b.toNat / 8 := by
    have hlt := b.isLt
    rw [BitVec.extractLsb_toNat, Nat.shiftRight_eq_div_pow]
    omega
  have hdelta : (b.extractLsb 2 0).toNat = b.toNat % 8 := by
    rw [BitVec.extractLsb_toNat, Nat.shiftRight_zero]
  simp only [byteSum, deltaSum, sext3, sumOfByte, nat, hbase, hdelta]

/-- The three sums of a color block (R160). -/
theorem sumsOf_eq_sumOfByte (b0 b1 b2 : Byte) : sumsOf b0 b1 b2 = ⟨sumOfByte b0, sumOfByte b1, sumOfByte b2⟩ := by
  simp only [sumsOf, byteSum_eq_sumOfByte]

namespace Machine

/-! ### What an instruction leaves alone -/

/-- A write of the serving core's registers touches nothing outside it (R29). -/
theorem outsideCoreUnchanged_withCore (s : State) (c : Core) : OutsideCoreUnchanged s (s.withCore c) where
  params := rfl
  otherCores := rfl
  requests := rfl
  call := rfl
  walk := rfl
  status := rfl
  srcLen := rfl
  dstLen := rfl
  srcBytes _ := rfl
  dstBytes _ := rfl
  src := rfl
  dst := rfl
  dstCut := rfl
  otherWalkers := rfl

/-- No unit writes the request registers or the response; the two core operations are no units (R22). -/
theorem coreAfter_unit_request {i : Instr} (p : Params) (c : Core) (h : i.select ≠ .decrgb) (ha : i.select ≠ .decrgba) :
    (coreAfter i p c).op = c.op ∧ (coreAfter i p c).cb = c.cb ∧ (coreAfter i p c).ab = c.ab ∧
    (coreAfter i p c).response = c.response := by
  cases i with
  | decrgb => exact absurd rfl h
  | decrgba => exact absurd rfl ha
  | etc2I | etc2D =>
    simp [coreAfter, individualBody, individualBases, differentialBody, differentialBases, subblockRender]
  | etc2T | etc2H =>
    simp [coreAfter, tBody, tPaint, tDistance, tBases, hBody, hPaint, hDistance, hOrder, hBases, paintRender]
  | etc2P => simp [coreAfter, planarBody, planarCorners, planarRender]
  | eacA8 => simp [coreAfter, alphaBody, alphaRender]
  | classify => simp [coreAfter, classifyUnit]
  | idx2 | idx3 => simp [coreAfter]

/-! ### The color result of a block -/

/-- The registers when the body runs: the mode, the sums and `IDX2` of the latched block are written (R230). -/
theorem latched_eq (c : Core) :
    extractLatched (classifyLatched c) =
      { c with mode := blockMode c.cb, sums := sumsOf c.cb.b0 c.cb.b1 c.cb.b2, idx2 := blockIdx2 c.cb } := rfl

/-- `DECRGB`'s steps leave what the body that the block selects leaves on its own, with the mode, the sums and `IDX2`
written: no body reads the mode or the sums, and the Planar one alone neither reads nor writes `IDX2` (R213, R230). -/
theorem decodeColorBlock_eq_selected (p : Params) (c : Core) :
    decodeColorBlock p c = { coreAfter (decodeColor c.cb) p c with
      mode := blockMode c.cb, sums := sumsOf c.cb.b0 c.cb.b1 c.cb.b2, idx2 := blockIdx2 c.cb } := by
  unfold decodeColorBlock runBody decodeColor
  rw [latched_eq]
  cases blockMode c.cb <;> rfl

/-- A color body neither reads nor writes the request registers (R22). -/
theorem coreAfter_decodeColor_withRequest (b : Block) (p : Params) (c : Core) (op : BitVec 1) (cb : Block) :
    coreAfter (decodeColor b) p (c.withRequest op cb) = (coreAfter (decodeColor b) p c).withRequest op cb := by
  unfold decodeColor
  cases blockMode b <;> rfl

/-- `DECRGB`'s steps leave the alpha block and the alpha decoder's registers alone (R230). -/
theorem decodeColorBlock_alpha_registers (p : Params) (c : Core) :
    (decodeColorBlock p c).ab = c.ab ∧ (decodeColorBlock p c).idx3 = c.idx3 ∧ (decodeColorBlock p c).alpha = c.alpha := by
  obtain ⟨-, -, hab, -, -, -, hidx3, halpha, -⟩ := runBody_frame p (extractLatched (classifyLatched c))
  exact ⟨hab, hidx3, halpha⟩

/-- The registers after `DECRGB`, by the body that the block selects (R230). -/
theorem coreAfter_decrgb (cb : Block) (p : Params) (c : Core) :
    coreAfter (.decrgb cb) p c = { coreAfter (decodeColor cb) p c with
      op := 0, cb := cb, mode := blockMode cb, sums := sumsOf cb.b0 cb.b1 cb.b2, idx2 := blockIdx2 cb,
      response := some (coreAfter (decodeColor cb) p c).px } := by
  calc coreAfter (.decrgb cb) p c
      = (decodeColorBlock p (c.withRequest 0 cb)).respond := rfl
    _ = Core.respond { coreAfter (decodeColor cb) p (c.withRequest 0 cb) with
          mode := blockMode cb, sums := sumsOf cb.b0 cb.b1 cb.b2, idx2 := blockIdx2 cb } := by
        rw [decodeColorBlock_eq_selected, Core.withRequest_cb]
    _ = _ := by rw [coreAfter_decodeColor_withRequest]; rfl

/-! ### What the response depends on -/

/-- The alpha result depends on the alpha block, the table and the pixels it joins (R20, R231). -/
theorem decodeAlphaBlock_px_congr {p p' : Params} {c c' : Core} (hamod : p'.amodRows = p.amodRows) (hab : c'.ab = c.ab)
    (hpx : c'.px = c.px) : (decodeAlphaBlock p' c').px = (decodeAlphaBlock p c).px := by
  unfold decodeAlphaBlock
  rw [hab]
  exact alphaBody_px_congr hamod _ _ hpx

/-- The response of `DECRGB` depends on the block and the configuration alone (R20, R232). -/
theorem decrgb_response_congr {p p' : Params} (cb : Block) (c c' : Core) (himod : p'.imodRows = p.imodRows)
    (hlegacy : p'.legacyNonflipBase1 = p.legacyNonflipBase1) :
    (coreAfter (.decrgb cb) p' c').response = (coreAfter (.decrgb cb) p c).response :=
  congrArg some (decodeColorBlock_px_congr himod hlegacy rfl)

/-- The response of `DECRGBA` depends on the two blocks and the configuration alone (R20, R232). -/
theorem decrgba_response_congr {p p' : Params} (ab cb : Block) (c c' : Core) (himod : p'.imodRows = p.imodRows)
    (hamod : p'.amodRows = p.amodRows) (hlegacy : p'.legacyNonflipBase1 = p.legacyNonflipBase1) :
    (coreAfter (.decrgba ab cb) p' c').response = (coreAfter (.decrgba ab cb) p c).response := by
  have hab (q : Params) (k : Core) : (decodeColorBlock q ((k.withRequest 1 cb).withAlphaBlock ab)).ab = ab :=
    (decodeColorBlock_alpha_registers q _).1
  have hpx : (decodeColorBlock p' ((c'.withRequest 1 cb).withAlphaBlock ab)).px =
      (decodeColorBlock p ((c.withRequest 1 cb).withAlphaBlock ab)).px :=
    decodeColorBlock_px_congr himod hlegacy rfl
  exact congrArg some (decodeAlphaBlock_px_congr hamod ((hab p' c').trans (hab p c).symm) hpx)

/-! ### The step, by what is presented -/

/-- A presented request is served before anything else (log 4). -/
theorem step_of_request {s : State} {r : Request} {rest : List Request} (h : s.requests = r :: rest) :
    step s = serve r (s.withRequests rest) := by
  simp only [step, h]

/-- Without a request and a running call, a waiting call is taken up (log 4). -/
theorem step_of_waiting_call {s : State} {c : Call} (hr : s.requests = []) (hw : s.walk = none) (hc : s.call = some c) :
    step s = startCall c s := by
  simp only [step, hr, hw, hc]

/-- A request that decodes is run as its instruction (R20). -/
theorem serve_of_decode {r : Request} {i : Instr} (s : State) (h : decode r.sel r.bytes = .ok i) :
    serve r s = exec i s := by
  simp only [serve, h]

/-- An image of at least one pixel each way has blocks (R241). -/
theorem blockCount_ne_zero {n : BitVec 32} (h : n ≠ 0) : blockCount n ≠ 0 := by
  have hn : n.toNat ≠ 0 := fun h0 => h (BitVec.eq_of_toNat_eq h0)
  unfold blockCount
  omega

/-- A call with blocks that fits and passes the checks begins its walk (R244). -/
theorem startCall_of_pass {c : Call} {s : State} (hsrc : fitsAddr s.params.addrW (srcNeed c) = true)
    (hdst : fitsAddr s.params.addrW (dstNeed c) = true) (hcheck : ChecksPass s c)
    (hblocks : blockCount c.width * blockCount c.height ≠ 0) :
    startCall c s = .next ((s.withCall none).withWalk (some (startWalk c)) none) := by
  have hnone : checkCall c s.src.len s.dst.len = none :=
    checkCall_eq_none.mpr ⟨hcheck.source, hcheck.destMin, hcheck.destNeed⟩
  simp [startCall, hsrc, hdst, hnone, hblocks]

/-! ### What a step that answers a next state has done -/

/-- A write-back that answers has stored its footprint and moved on (R245). -/
theorem writeBack_next {w : Walk} {s t : State} (h : writeBack w s = .next t) :
    ∃ m, memWrite s.dst (footprintCells (blockOffset w.rowPitch w.bx w.bY) w.rowPitch s.core.px) = some m ∧
      t = advanceWalk w (((s.withDst m).onCore Core.takeResponse).nextCore) := by
  rcases writeBack_cases w s with ⟨m, hm, he⟩ | ⟨-, he⟩
  · exact ⟨m, hm, Host.Outcome.next.inj (h.symm.trans he)⟩
  · cases h.symm.trans he

/-- Serving a request that answers has run an instruction on the serving core alone. -/
theorem serve_next {r : Request} {s t : State} (h : serve r s = .next t) : ∃ c, t = s.withCore c := by
  rcases serve_cases r s with ⟨i, -, he⟩ | ⟨_, -, he⟩
  · exact ⟨_, Host.Outcome.next.inj (h.symm.trans he)⟩
  · cases h.symm.trans he

/-- A walk's step that answers has written the destination, the core instances and the walker's own state alone. -/
theorem walkStep_next {w : Walk} {s t : State} (h : walkStep w s = .next t) :
    t.params = s.params ∧ t.src = s.src ∧ t.dst.len = s.dst.len ∧ t.dstCut = s.dstCut ∧
    t.otherWalkers = s.otherWalkers := by
  rcases walkStep_cases w s with ⟨-, he⟩ | ⟨-, i, -, he⟩
  · cases h.symm.trans he
  · obtain ⟨m, hm, rfl⟩ := writeBack_next (he.symm.trans h)
    have hlen : m.len = s.dst.len := memWrite_len hm
    simp [hlen]

/-- The start of a call that answers has written the call, the walk and the status alone (R242). -/
theorem startCall_next {c : Call} {s t : State} (h : startCall c s = .next t) :
    ∃ w st, t = (s.withCall none).withWalk w st := by
  rcases startCall_cases c s with ⟨-, he⟩ | ⟨-, ⟨e, -, he⟩ | ⟨-, -, he⟩ | ⟨-, -, he⟩⟩
  · cases h.symm.trans he
  · exact ⟨none, some (.error e), Host.Outcome.next.inj (h.symm.trans he)⟩
  · exact ⟨none, some .ok, Host.Outcome.next.inj (h.symm.trans he)⟩
  · exact ⟨some (startWalk c), none, Host.Outcome.next.inj (h.symm.trans he)⟩

/-! ### What reset leaves an observer to see -/

/-- The walker in front after a reset. -/
theorem State.applyReset_walker (s : State) : s.applyReset.walker = s.walker.applyReset := rfl

/-- Reset does not change what an observer may see of the `DST` in front (R282, U6). -/
@[simp] theorem State.applyReset_visibleDst (s : State) : s.applyReset.visibleDst = s.visibleDst := by
  rw [State.visibleDst, State.applyReset_walker, Walker.applyReset_visibleDst, State.visibleDst]

/-- Nothing of `DST` is shown from the making of a call to its return (R65). -/
theorem State.visibleDst_of_busy {s : State} (h : s.call ≠ none ∨ s.walk ≠ none) : s.visibleDst = none := by
  have hbusy : s.walker.busy = true := by
    rw [← Bool.not_eq_false, Walker.busy_eq_false]
    exact not_and_or.mpr h
  simp [State.visibleDst, Walker.visibleDst, hbusy]

/-- `DST` is shown when no call exists and no reset has cut one. -/
theorem State.visibleDst_of_free {s : State} (hc : s.call = none) (hw : s.walk = none) (hcut : s.dstCut = false) :
    s.visibleDst = some s.dst := by
  have hfree : s.walker.busy = false := Walker.busy_eq_false.mpr ⟨hc, hw⟩
  have hshown : s.walker.dstCut = false := hcut
  simp only [State.visibleDst, Walker.visibleDst, hfree, hshown, Bool.or_false, Bool.false_eq_true, if_false]
  rfl

/-- Each of the other walkers is reset at its own place in the line. -/
theorem State.applyReset_otherWalkers_getElem? {s : State} {k : Nat} {u : Walker} (h : s.otherWalkers[k]? = some u) :
    s.applyReset.otherWalkers[k]? = some u.applyReset := by
  rw [State.applyReset_otherWalkers, List.getElem?_map, h, Option.map_some]

end Machine

namespace StateFamily

/-- Settles O25: the registers after `DECRGB` are `coreAfter_decrgb`; the alphas and the untouched registers are those of
the body that the mode names. -/
theorem decrgbRespondsWithItsBody : Obligations.DecrgbRespondsWithItsBody := by
  intro cb s
  have halpha := runBody_alpha s.params (extractLatched (classifyLatched (s.core.withRequest 0 cb)))
  obtain ⟨hab, hidx3, hheader⟩ := decodeColorBlock_alpha_registers s.params (s.core.withRequest 0 cb)
  refine ⟨_, _, exec_eq _ s, exec_eq _ s, outsideCoreUnchanged_withCore s _, ?_, halpha, hab, hidx3, hheader⟩
  simp only [State.withCore_core]
  rw [coreAfter_decrgb, sumsOf_eq_sumOfByte]

/-- Settles O27: of the registers the response reads none that the operation has not itself written. -/
theorem responseIsAFunctionOfTheRequest : Obligations.ResponseIsAFunctionOfTheRequest := by
  intro ab cb s s' himod hamod hlegacy
  exact ⟨⟨_, _, _, exec_eq _ s, exec_eq _ s', rfl, decrgb_response_congr cb s.core s'.core himod hlegacy⟩,
    ⟨_, _, _, exec_eq _ s, exec_eq _ s', rfl, decrgba_response_congr ab cb s.core s'.core himod hamod hlegacy⟩⟩

/-- Settles O36, by what the step does: serve a request, move the walk, start a call, or nothing. -/
theorem stepWritesOnlyTheDestinationOfAWalk : Obligations.StepWritesOnlyTheDestinationOfAWalk := by
  intro s t h
  rcases step_cases s with ⟨r, rest, -, he⟩ | ⟨w, hr, hw, he⟩ | ⟨c, -, -, -, he⟩ | ⟨-, -, -, he⟩
  · obtain ⟨c, rfl⟩ := serve_next (he.symm.trans h)
    exact ⟨rfl, rfl, rfl, rfl, rfl, fun _ => ⟨rfl, fun _ => rfl⟩⟩
  · obtain ⟨hparams, hsrc, hlen, hcut, hothers⟩ := walkStep_next (he.symm.trans h)
    have hmoves : ¬ (s.requests ≠ [] ∨ s.walk = none) := by simp [hr, hw]
    exact ⟨hparams, hsrc, hlen, hcut, hothers, fun hquiet => absurd hquiet hmoves⟩
  · obtain ⟨w, st, rfl⟩ := startCall_next (he.symm.trans h)
    exact ⟨rfl, rfl, rfl, rfl, rfl, fun _ => ⟨rfl, fun _ => rfl⟩⟩
  · obtain rfl := Host.Outcome.next.inj (he.symm.trans h)
    exact ⟨rfl, rfl, rfl, rfl, rfl, fun _ => ⟨rfl, fun _ => rfl⟩⟩

/-- Settles O29: an instruction is a write of the serving core. -/
theorem everyInstructionRunsInItsOwnCore : Obligations.EveryInstructionRunsInItsOwnCore :=
  fun i s => ⟨_, exec_eq i s, outsideCoreUnchanged_withCore s _⟩

/-- Settles O30, by the cases of the instruction. -/
theorem unitsLeaveTheRequestAlone : Obligations.UnitsLeaveTheRequestAlone := by
  intro i s t h ha ht
  obtain rfl := Host.Outcome.next.inj ((exec_eq i s).symm.trans ht)
  exact coreAfter_unit_request s.params s.core h ha

/-- Settles O32: both buffers are canonical, and there is neither a walk nor another walker. -/
theorem invariantHoldsAtReset : Obligations.InvariantHoldsAtReset where
  src_wf := reset_buffers_wf.1
  dst_wf := reset_buffers_wf.2
  walk_ok := by rintro w ⟨⟩
  others_ok := by rintro v ⟨⟩

/-- Settles O37: the step serves the request, and serving runs what the decoder reads. -/
theorem stepRunsTheDecodedRequest : Obligations.StepRunsTheDecodedRequest := by
  intro s r rest i hr hd
  calc step s = serve r (s.withRequests rest) := step_of_request hr
    _ = exec i (s.withRequests rest) := serve_of_decode _ hd

/-- Settles O47: the call waits, so the step takes it up; it fits, passes the checks and has blocks, so its walk begins. -/
theorem walkBeginsAtTheFirstBlock : Obligations.WalkBeginsAtTheFirstBlock := by
  intro s c hwaits hpass hwidth hheight
  have hblocks : blockCount c.width * blockCount c.height ≠ 0 :=
    Nat.mul_ne_zero (blockCount_ne_zero hwidth) (blockCount_ne_zero hheight)
  calc step s = startCall c s := step_of_waiting_call hwaits.requests hwaits.walk hwaits.call
    _ = .next ((s.withCall none).withWalk (some (startWalk c)) none) :=
        startCall_of_pass hwaits.srcFits hwaits.dstFits hpass hblocks

/-- Settles O56: the fields after a reset, and what an observer may see of the `DST` of each walker. -/
theorem resetKeepsTheBuffersAndCutsTheCall : Obligations.ResetKeepsTheBuffersAndCutsTheCall := by
  intro s
  have hvisible := State.applyReset_visibleDst s
  exact ⟨rfl, rfl, rfl, rfl, rfl, rfl, rfl, rfl, rfl, hvisible,
    fun hcall => hvisible.trans (State.visibleDst_of_busy hcall),
    fun hc hw hcut => hvisible.trans (State.visibleDst_of_free hc hw hcut),
    List.length_map _,
    fun _ u hu => ⟨u.applyReset, State.applyReset_otherWalkers_getElem? hu, rfl, rfl, rfl, rfl, rfl,
      Walker.applyReset_visibleDst u⟩⟩

end StateFamily

end Sys2Proof
end

section
/-! PROOFS. The family of spec/20_memory.md: a canonical buffer is its bytes (R50), and which bytes the footprints of a
call cover and when they overlap (R53 to R58, R63). -/

namespace Sys2Proof

open Machine Claim

namespace Machine

/-! ### A buffer is its bytes (R50) -/

/-- In a rising list of cells an address reads as the value of its entry. -/
theorem readCells_of_mem {cs : List Host.Cell} {a : Nat} {b : Byte} (h : cs.Pairwise fun c d => c.1 < d.1)
    (hm : (a, b) ∈ cs) : readCells cs a = b := by
  induction cs with
  | nil => cases hm
  | cons c rest ih =>
    obtain ⟨x, v⟩ := c
    obtain ⟨hlt, hrest⟩ := List.pairwise_cons.mp h
    rcases List.mem_cons.mp hm with he | hm
    · obtain ⟨rfl, rfl⟩ := Prod.mk.inj he
      simp [readCells]
    · have hne : x ≠ a := (hlt _ hm).ne
      simp only [readCells, if_neg hne, ih hrest hm]

/-- An address that does not read as unlisted has an entry. -/
theorem mem_of_readCells_ne {cs : List Host.Cell} {a : Nat} (h : readCells cs a ≠ unlisted) :
    (a, readCells cs a) ∈ cs := by
  induction cs with
  | nil => exact absurd rfl h
  | cons c rest ih =>
    obtain ⟨x, v⟩ := c
    by_cases hx : x = a
    · simp [readCells, hx]
    · simp only [readCells, if_neg hx] at h ⊢
      exact List.mem_cons_of_mem _ (ih h)

/-- The entries of a canonical buffer are the bytes that do not read as unlisted. -/
theorem Memory.mem_cells_iff {m : Memory} (h : m.wf) (c : Host.Cell) :
    c ∈ m.cells ↔ m.read c.1 = c.2 ∧ c.2 ≠ unlisted := by
  constructor
  · exact fun hc => ⟨readCells_of_mem h.1 hc, (h.2 c hc).2⟩
  · rintro ⟨hread, hne⟩
    have hmem := mem_of_readCells_ne (cs := m.cells) (a := c.1) (by rwa [← hread] at hne)
    rwa [show readCells m.cells c.1 = c.2 from hread] at hmem

/-- Two rising lists of cells with the same entries are equal. -/
theorem cells_eq_of_mem_iff {cs ds : List Host.Cell} (hc : cs.Pairwise fun c d => c.1 < d.1)
    (hd : ds.Pairwise fun c d => c.1 < d.1) (h : ∀ c, c ∈ cs ↔ c ∈ ds) : cs = ds := by
  have hirrefl : Std.Irrefl fun c d : Host.Cell => c.1 < d.1 := ⟨fun c => lt_irrefl c.1⟩
  have hantisymm : Std.Antisymm fun c d : Host.Cell => c.1 < d.1 :=
    ⟨fun _ _ hlt hgt => absurd hlt hgt.not_gt⟩
  exact List.Pairwise.eq_of_mem_iff hc hd h

/-! ### Block counts and the row pitch (R55, R241) -/

/-- A row of the destination holds at least one block's row (R55). -/
theorem sixteen_le_pitchOf (w : BitVec 32) : 16 ≤ pitchOf w := le_max_right _ _

/-- The footprints of a row of blocks are at least as wide as a row of the image (R57). -/
theorem pitchOf_le {w : BitVec 32} (h : w.toNat ≠ 0) : pitchOf w ≤ 16 * blockCount w := by
  unfold pitchOf blockCount
  omega

/-- They are exactly as wide when the width is a multiple of 4 or at most 4 (R58, R63). -/
theorem pitchOf_eq_iff {w : BitVec 32} (h : w.toNat ≠ 0) :
    pitchOf w = 16 * blockCount w ↔ w.toNat % 4 = 0 ∨ w.toNat ≤ 4 := by
  unfold pitchOf blockCount
  omega

/-- An image without columns or rows has no blocks that way (R241). -/
theorem blockCount_eq_zero {n : BitVec 32} : blockCount n = 0 ↔ n.toNat = 0 := by
  unfold blockCount
  omega

theorem blockCount_pos {n : BitVec 32} : 0 < blockCount n ↔ n.toNat ≠ 0 := by
  rw [Nat.pos_iff_ne_zero, Ne, blockCount_eq_zero]

/-- `DST_NEED` of a call with blocks (R58). -/
theorem dstNeed_of_blocks {c : Call} (hx : blockCount c.width ≠ 0) (hy : blockCount c.height ≠ 0) :
    dstNeed c = (4 * blockCount c.height - 1) * pitchOf c.width + 16 * blockCount c.width :=
  if_neg (Nat.mul_ne_zero hx hy)

/-! ### The bytes of the footprints, by row and column (R53 to R56) -/

/-- An address in a footprint is a row of the pitch and a column in bytes (R53). -/
theorem byteAddr_eq (c : Call) (bx bY : Nat) (i j ch : Fin 4) :
    byteAddr c bx bY i j ch = (4 * bY + j.val) * pitchOf c.width + (16 * bx + 4 * i.val + ch.val) := by
  unfold byteAddr
  omega

/-- Row and column of an address are unique when the columns are below the pitch. -/
theorem row_column_unique {p r r' x x' : Nat} (hx : x < p) (hx' : x' < p) (h : r * p + x = r' * p + x') :
    r = r' ∧ x = x' := by
  have hp : 0 < p := by omega
  have hrow := (Nat.div_mod_unique hp).mpr ⟨show x + p * r = r * p + x by ring, hx⟩
  have hrow' := (Nat.div_mod_unique hp).mpr ⟨show x' + p * r' = r * p + x by rw [h]; ring, hx'⟩
  exact ⟨hrow.1.symm.trans hrow'.1, hrow.2.symm.trans hrow'.2⟩

/-- The footprints cover the first `16*nx` bytes of each of the `4*ny` rows (R56, R57). -/
theorem exists_byteAddr_iff (c : Call) (a : Nat) :
    (∃ bx bY, bx < blockCount c.width ∧ bY < blockCount c.height ∧ ∃ i j ch : Fin 4, a = byteAddr c bx bY i j ch) ↔
      ∃ row col, row < 4 * blockCount c.height ∧ col < 16 * blockCount c.width ∧ a = row * pitchOf c.width + col := by
  constructor
  · rintro ⟨bx, bY, hx, hy, i, j, ch, rfl⟩
    exact ⟨4 * bY + j.val, 16 * bx + 4 * i.val + ch.val, by omega, by omega, byteAddr_eq c bx bY i j ch⟩
  · rintro ⟨row, col, hrow, hcol, rfl⟩
    refine ⟨col / 16, row / 4, by omega, by omega, ⟨col / 4 % 4, by omega⟩, ⟨row % 4, by omega⟩, ⟨col % 4, by omega⟩, ?_⟩
    rw [byteAddr_eq]
    congr 2 <;> simp only <;> omega

/-- Those bytes are the ones below `DST_NEED`: a row begins where the one before it has ended or earlier (R58). -/
theorem lt_dstNeed_iff (c : Call) (a : Nat) :
    a < dstNeed c ↔
      ∃ row col, row < 4 * blockCount c.height ∧ col < 16 * blockCount c.width ∧ a = row * pitchOf c.width + col := by
  by_cases hblocks : blockCount c.width * blockCount c.height = 0
  · rw [dstNeed, if_pos hblocks]
    rcases Nat.mul_eq_zero.mp hblocks with h | h <;> simp [h]
  · obtain ⟨hx, hy⟩ := Nat.mul_ne_zero_iff.mp hblocks
    rw [dstNeed_of_blocks hx hy]
    constructor
    · intro ha
      have hpitch : pitchOf c.width ≤ 16 * blockCount c.width := pitchOf_le (blockCount_eq_zero.not.mp hx)
      by_cases hrow : a / pitchOf c.width < 4 * blockCount c.height
      · have hcol : a % pitchOf c.width < pitchOf c.width := Nat.mod_lt _ (by have := sixteen_le_pitchOf c.width; omega)
        exact ⟨_, _, hrow, hcol.trans_le hpitch, (Nat.div_add_mod' a _).symm⟩
      · have hlast : (4 * blockCount c.height - 1) * pitchOf c.width ≤ a :=
          (Nat.mul_le_mul_right _ (by omega)).trans (Nat.div_mul_le_self a (pitchOf c.width))
        exact ⟨4 * blockCount c.height - 1, a - (4 * blockCount c.height - 1) * pitchOf c.width, by omega, by omega,
          by omega⟩
    · rintro ⟨row, col, hrow, hcol, rfl⟩
      have hle : row * pitchOf c.width ≤ (4 * blockCount c.height - 1) * pitchOf c.width :=
        Nat.mul_le_mul_right _ (by omega)
      omega

/-- Every byte of a footprint is below `DST_NEED` (R58). -/
theorem byteAddr_lt_dstNeed {c : Call} {bx bY : Nat} (hx : bx < blockCount c.width) (hy : bY < blockCount c.height)
    (i j ch : Fin 4) : byteAddr c bx bY i j ch < dstNeed c :=
  (lt_dstNeed_iff c _).mpr ((exists_byteAddr_iff c _).mp ⟨bx, bY, hx, hy, i, j, ch, rfl⟩)

/-- The 64 addresses of one footprint are distinct: a row of it is no wider than the pitch (R55, R56). -/
theorem byteAddr_injective {c : Call} {bx bY : Nat} {i j ch i' j' ch' : Fin 4}
    (h : byteAddr c bx bY i j ch = byteAddr c bx bY i' j' ch') : i = i' ∧ j = j' ∧ ch = ch' := by
  have hpitch := sixteen_le_pitchOf c.width
  rw [byteAddr_eq, byteAddr_eq] at h
  obtain ⟨hrow, hcol⟩ := row_column_unique (p := pitchOf c.width) (r := 4 * bY + j.val) (r' := 4 * bY + j'.val)
    (x := 4 * i.val + ch.val) (x' := 4 * i'.val + ch'.val) (by omega) (by omega) (by omega)
  omega

/-- When a row of blocks is exactly as wide as the pitch, an address has one row and one column, so different blocks
share no byte (R63). -/
theorem byteAddr_ne_of_aligned {c : Call} (hpitch : pitchOf c.width = 16 * blockCount c.width) {bx bY bx' bY' : Nat}
    (hx : bx < blockCount c.width) (hx' : bx' < blockCount c.width) (hne : (bx, bY) ≠ (bx', bY'))
    (i j ch i' j' ch' : Fin 4) : byteAddr c bx bY i j ch ≠ byteAddr c bx' bY' i' j' ch' := by
  intro h
  rw [byteAddr_eq, byteAddr_eq] at h
  obtain ⟨hrow, hcol⟩ := row_column_unique (by omega) (by omega) h
  exact hne (Prod.ext (by omega) (by omega))

/-- With a width above 4 that is no multiple of 4 the last block of a row reaches into the second row of the first one:
the byte at the pitch is in both (R63). -/
theorem byteAddr_overlap {c : Call} (hwidth : ¬ (c.width.toNat % 4 = 0 ∨ c.width.toNat ≤ 4)) :
    byteAddr c (blockCount c.width - 1) 0 ⟨c.width.toNat % 4, by omega⟩ 0 0 = byteAddr c 0 0 0 1 0 := by
  have hpitch : pitchOf c.width = 16 * (blockCount c.width - 1) + 4 * (c.width.toNat % 4) := by
    unfold pitchOf blockCount
    omega
  simp [byteAddr_eq, hpitch]

end Machine

namespace MemoryFamily

/-- Settles O52: the entries of both lists are the bytes that do not read as unlisted, in rising order. -/
theorem canonicalBuffersAreTheirBytes : Obligations.CanonicalBuffersAreTheirBytes := by
  rintro ⟨len, cells⟩ ⟨len', cells'⟩ h h' rfl hread
  congr 1
  refine cells_eq_of_mem_iff h.1 h'.1 fun c => ?_
  rw [Memory.mem_cells_iff h c, Memory.mem_cells_iff h' c, hread]

/-- Settles O41: the rows up to the height of the last row of blocks and the bytes up to the width of a row of blocks are
what `DST_NEED` has beyond `DST_MIN`. -/
theorem destinationNeedAgainstThreshold : Obligations.DestinationNeedAgainstThreshold := by
  intro c hw hh
  have hx : c.width.toNat ≠ 0 := by omega
  have hpitch := pitchOf_le hx
  have hheight : c.height.toNat ≤ 4 * blockCount c.height := by unfold blockCount; omega
  have haligned : c.height.toNat % 4 = 0 ↔ c.height.toNat = 4 * blockCount c.height := by unfold blockCount; omega
  rw [← pitchOf_eq_iff hx, haligned, dstMin,
    dstNeed_of_blocks (blockCount_eq_zero.not.mpr hx) (blockCount_eq_zero.not.mpr (by omega))]
  have hrows : (4 * blockCount c.height - 1) * pitchOf c.width + pitchOf c.width =
      pitchOf c.width * (4 * blockCount c.height) := by
    rw [← Nat.succ_mul, Nat.succ_eq_add_one, Nat.sub_add_cancel (by omega), Nat.mul_comm]
  rcases hheight.lt_or_eq with hlt | heq
  · have hfewer : pitchOf c.width * c.height.toNat + pitchOf c.width ≤ pitchOf c.width * (4 * blockCount c.height) :=
      Nat.mul_le_mul_left _ hlt
    have hpos := sixteen_le_pitchOf c.width
    omega
  · rw [heq]
    omega

/-- Settles O42: both sides are the first `16*nx` bytes of each of the `4*ny` rows. -/
theorem footprintsCoverBelowDestinationNeed : Obligations.FootprintsCoverBelowDestinationNeed :=
  fun c a => (lt_dstNeed_iff c a).trans (exists_byteAddr_iff c a).symm

/-- Settles O43: an overlap at any other width, and unique rows and columns at these. -/
theorem footprintsDisjointExactlyWhenAligned : Obligations.FootprintsDisjointExactlyWhenAligned := by
  intro c hh
  constructor
  · intro hdisjoint
    by_contra hwidth
    have hcount : 2 ≤ blockCount c.width := by unfold blockCount; omega
    exact hdisjoint (blockCount c.width - 1) 0 0 0 (by omega) (blockCount_pos.mpr (by omega)) (by omega)
      (blockCount_pos.mpr (by omega)) (by simp; omega) _ _ _ _ _ _ (byteAddr_overlap hwidth)
  · intro hwidth bx bY bx' bY' hx _ hx' _ hne
    have hpos : c.width.toNat ≠ 0 := blockCount_pos.mp (by omega)
    exact byteAddr_ne_of_aligned ((pitchOf_eq_iff hpos).mpr hwidth) hx hx' hne

end MemoryFamily

end Sys2Proof
end

section
/-! PROOFS. The family of spec/20_memory.md, continued: one step of the walk (R54, R243 to R245) and the invariant that
every step keeps (R50, R58). -/

namespace Sys2Proof

open Machine Claim

namespace Machine

/-! ### The bytes of one block (R54, R56) -/

/-- The bytes that the write-back of a block stores. -/
def blockCells (c : Call) (bx bY : Nat) (px : Vector Pixel 16) : List Host.Cell :=
  footprintCells (blockOffset (pitchOf c.width) bx bY) (pitchOf c.width) px

/-- The bytes of a pixel, by channel (R54). -/
theorem mem_pixelCells_iff {a : Nat} {p : Pixel} {x : Host.Cell} :
    x ∈ pixelCells a p ↔ ∃ ch : Fin 4, x = (a + ch.val, channelOf p ch) := by
  rw [mem_pixelCells]
  constructor
  · rintro (rfl | rfl | rfl | rfl)
    exacts [⟨0, rfl⟩, ⟨1, rfl⟩, ⟨2, rfl⟩, ⟨3, rfl⟩]
  · rintro ⟨ch, rfl⟩
    fin_cases ch <;> simp [channelOf]

/-- The bytes of a block, by pixel and channel (R53, R54). -/
theorem mem_blockCells_iff {c : Call} {bx bY : Nat} {px : Vector Pixel 16} {x : Host.Cell} :
    x ∈ blockCells c bx bY px ↔ ∃ i j ch : Fin 4, x = (byteAddr c bx bY i j ch, channelOf (at_ px i j) ch) := by
  have haddr (i j ch : Fin 4) : blockOffset (pitchOf c.width) bx bY + j.val * pitchOf c.width + i.val * 4 + ch.val =
      byteAddr c bx bY i j ch := by
    unfold blockOffset byteAddr
    ring
  simp only [blockCells, mem_footprintCells, mem_pixelCells_iff, haddr, at_]

/-- The bytes of a block in the grid lie in a destination of `DST_NEED` bytes (R58). -/
theorem blockCells_inRange {c : Call} {bx bY : Nat} {m : Memory} (hx : bx < blockCount c.width)
    (hy : bY < blockCount c.height) (hlen : dstNeed c ≤ m.len) (px : Vector Pixel 16) :
    ∀ x ∈ blockCells c bx bY px, x.1 < m.len := by
  intro x hxm
  obtain ⟨i, j, ch, rfl⟩ := mem_blockCells_iff.mp hxm
  exact (byteAddr_lt_dstNeed hx hy i j ch).trans_le hlen

/-- After the write-back of a block each byte of its footprint holds its pixel's channel (R54, R245). -/
theorem read_storeAll_blockCells {c : Call} {bx bY : Nat} {m : Memory} (hm : m.wf) (hx : bx < blockCount c.width)
    (hy : bY < blockCount c.height) (hlen : dstNeed c ≤ m.len) (px : Vector Pixel 16) (i j ch : Fin 4) :
    (m.storeAll (blockCells c bx bY px)).read (byteAddr c bx bY i j ch) = channelOf (at_ px i j) ch := by
  refine m.read_storeAll_of_mem _ _ _ hm (blockCells_inRange hx hy hlen px) (mem_blockCells_iff.mpr ⟨i, j, ch, rfl⟩) ?_
  intro x hxm haddr
  obtain ⟨i', j', ch', rfl⟩ := mem_blockCells_iff.mp hxm
  obtain ⟨rfl, rfl, rfl⟩ := byteAddr_injective haddr
  rfl

/-! ### The unit of a block (R51, R52) -/

/-- The core operation that a unit at offset `a` asks for (R52). -/
def unitAt (variant : BitVec 1) (m : Memory) (a : Nat) : Instr :=
  if variant = 0 then .decrgb (blockAt m a) else .decrgba (blockAt m a) (blockAt m (a + 8))

/-- The bytes of a unit decode to the core operation that the variant asks for, on the blocks that stand there. -/
theorem decode_unitAt (variant : BitVec 1) (m : Memory) (a : Nat) :
    decode (selectOfOp variant) ((List.range (unitSize variant)).map fun i => m.read (a + i)) =
      .ok (unitAt variant m a) := by
  unfold selectOfOp unitSize unitAt
  split <;> rfl

/-- The unit of a block stands at its offset (R51). -/
theorem unitInstr_eq (c : Call) (m : Memory) (bx bY : Nat) :
    unitInstr c m bx bY = unitAt c.variant m (unitOffset c bx bY) := by
  unfold unitInstr unitAt unitOffset unitSize
  split <;> rw [Nat.mul_comm]

/-- A unit's pixels are its response (R230, R231). -/
theorem unitAt_response (variant : BitVec 1) (m : Memory) (a : Nat) (p : Params) (k : Core) :
    (coreAfter (unitAt variant m a) p k).response = some (coreAfter (unitAt variant m a) p k).px := by
  unfold unitAt
  split <;> rfl

/-- The pixels of a unit do not depend on what the core's registers held (R20, R36). -/
theorem unitAt_px_congr {p p' : Params} (variant : BitVec 1) (m : Memory) (a : Nat) (k k' : Core)
    (himod : p'.imodRows = p.imodRows) (hamod : p'.amodRows = p.amodRows)
    (hlegacy : p'.legacyNonflipBase1 = p.legacyNonflipBase1) :
    (coreAfter (unitAt variant m a) p' k').px = (coreAfter (unitAt variant m a) p k).px := by
  have hresponse : (coreAfter (unitAt variant m a) p' k').response = (coreAfter (unitAt variant m a) p k).response := by
    unfold unitAt
    split
    · exact decrgb_response_congr _ k k' himod hlegacy
    · exact decrgba_response_congr _ _ k k' himod hamod hlegacy
  rwa [unitAt_response, unitAt_response, Option.some_inj] at hresponse

/-- A step of a walk whose unit lies in `SRC` decodes it and writes back (R69, R245). -/
theorem walkStep_of_fits {s : State} {w : Walk} (h : w.sp + unitSize w.call.variant ≤ s.src.len) :
    walkStep w s = writeBack w (s.withCore (coreAfter (unitAt w.call.variant s.src w.sp) s.params s.core)) := by
  rcases walkStep_cases w s with ⟨hout, -⟩ | ⟨-, i, hi, he⟩
  · exact absurd h hout
  · rw [decode_unitAt] at hi
    obtain rfl := Except.ok.inj hi
    exact he

/-- A step of a walk whose unit does not lie in `SRC` faults (R70). -/
theorem walkStep_of_not_fits {s : State} {w : Walk} (h : ¬ w.sp + unitSize w.call.variant ≤ s.src.len) :
    walkStep w s = .fault (.sourceReadOutOfRange w.sp (unitSize w.call.variant) s.src.len) := by
  rcases walkStep_cases w s with ⟨-, he⟩ | ⟨hin, -⟩
  · exact he
  · exact absurd hin h

/-! ### One step of a walk with the invariant (R245) -/

/-- The state in which the core has decoded the unit at the cursor. -/
def blockDecoded (w : Walk) (s : State) : State :=
  s.withCore (coreAfter (unitInstr w.call s.src w.bx w.bY) s.params s.core)

/-- The state in which the block is written back, its response taken and the next core in front. -/
def blockWritten (w : Walk) (s : State) : State :=
  (((blockDecoded w s).withDst
    (s.dst.storeAll (blockCells w.call w.bx w.bY (blockDecoded w s).core.px))).onCore Core.takeResponse).nextCore

theorem exec_unitInstr (w : Walk) (s : State) : exec (unitInstr w.call s.src w.bx w.bY) s = .next (blockDecoded w s) :=
  exec_eq _ s

@[simp] theorem blockWritten_params (w : Walk) (s : State) : (blockWritten w s).params = s.params := by
  simp [blockWritten, blockDecoded]
@[simp] theorem blockWritten_requests (w : Walk) (s : State) : (blockWritten w s).requests = s.requests := by
  simp [blockWritten, blockDecoded]
@[simp] theorem blockWritten_src (w : Walk) (s : State) : (blockWritten w s).src = s.src := by
  simp [blockWritten, blockDecoded]
@[simp] theorem blockWritten_dst (w : Walk) (s : State) :
    (blockWritten w s).dst = s.dst.storeAll (blockCells w.call w.bx w.bY (blockDecoded w s).core.px) := by
  simp [blockWritten]
@[simp] theorem blockWritten_call (w : Walk) (s : State) : (blockWritten w s).call = s.call := by
  simp [blockWritten, blockDecoded]

/-- A running call moves when no request is presented (log 4). -/
theorem step_of_walk {s : State} {w : Walk} (hr : s.requests = []) (hw : s.walk = some w) : step s = walkStep w s := by
  simp only [step, hr, hw]

/-- The write-back of a walk with the invariant stores the bytes of its block; they lie in `DST` (R245, R265). -/
theorem writeBack_of_walkOk {s : State} {w : Walk} (h : WalkOk s w) :
    writeBack w (blockDecoded w s) = .next (advanceWalk w (blockWritten w s)) := by
  have hx : w.bx < blockCount w.call.width := h.countX ▸ h.bx_lt
  have hy : w.bY < blockCount w.call.height := h.countY ▸ h.bY_lt
  have hstore : memWrite (blockDecoded w s).dst
      (footprintCells (blockOffset w.rowPitch w.bx w.bY) w.rowPitch (blockDecoded w s).core.px) =
        some (s.dst.storeAll (blockCells w.call w.bx w.bY (blockDecoded w s).core.px)) := by
    rw [h.pitch]
    exact memWrite_of_inRange (blockCells_inRange hx hy h.dest _)
  simp only [writeBack, hstore, blockWritten]

/-- One step of a walk with the invariant decodes its unit, writes the block back and moves on (R245). -/
theorem walkStep_of_walkOk {s : State} {w : Walk} (h : WalkOk s w) :
    walkStep w s = .next (advanceWalk w (blockWritten w s)) := by
  rw [walkStep_of_fits h.unit_fits, h.cursor, ← unitInstr_eq]
  exact writeBack_of_walkOk h

/-! ### Moving on (R243, R244) -/

theorem advanceWalk_of_column {w : Walk} (s : State) (h : w.bx + 1 < w.blockCountX) :
    advanceWalk w s = s.withWalk (some { w with bx := w.bx + 1, sp := w.sp + unitSize w.call.variant }) none :=
  if_pos h

theorem advanceWalk_of_row {w : Walk} (s : State) (hx : ¬ w.bx + 1 < w.blockCountX) (hy : w.bY + 1 < w.blockCountY) :
    advanceWalk w s =
      s.withWalk (some { w with bx := 0, bY := w.bY + 1, sp := w.sp + unitSize w.call.variant }) none := by
  rw [advanceWalk, if_neg hx, if_pos hy]

theorem advanceWalk_of_last {w : Walk} (s : State) (hx : ¬ w.bx + 1 < w.blockCountX) (hy : ¬ w.bY + 1 < w.blockCountY) :
    advanceWalk w s = returnOk s := by
  rw [advanceWalk, if_neg hx, if_neg hy]

end Machine

/-! ### The invariant of a running call -/

/-- The next block of the row is where R243 says. -/
theorem WalkOk.next_column {s : State} {w : Walk} (h : WalkOk s w) (hx : w.bx + 1 < w.blockCountX) :
    WalkOk s { w with bx := w.bx + 1, sp := w.sp + unitSize w.call.variant } :=
  { h with
    bx_lt := hx
    cursor := by
      simp only [h.cursor, unitOffset]
      ring }

/-- The first block of the next row is where R243 says. -/
theorem WalkOk.next_row {s : State} {w : Walk} (h : WalkOk s w) (hx : ¬ w.bx + 1 < w.blockCountX)
    (hy : w.bY + 1 < w.blockCountY) :
    WalkOk s { w with bx := 0, bY := w.bY + 1, sp := w.sp + unitSize w.call.variant } :=
  { h with
    bx_lt := Nat.zero_lt_of_lt h.bx_lt
    bY_lt := hy
    cursor := by
      have hlast : blockCount w.call.width = w.bx + 1 := by
        have := h.bx_lt
        have := h.countX
        omega
      simp only [h.cursor, unitOffset, hlast]
      ring }

/-- Where the walk goes on it keeps its invariant (R243, R244). -/
theorem WalkOk.after_advanceWalk {s t : State} {w w' : Walk} (h : WalkOk s w) (hw : (advanceWalk w t).walk = some w') :
    WalkOk s w' := by
  rcases advanceWalk_cases w t with ⟨hx, he⟩ | ⟨hx, hy, he⟩ | ⟨-, -, he⟩ <;> rw [he] at hw
  · obtain rfl := Option.some.inj hw
    exact h.next_column hx
  · obtain rfl := Option.some.inj hw
    exact h.next_row hx hy
  · cases hw

/-- A call with blocks that fits and has passed its checks begins with the invariant (R244). -/
theorem walkOk_startWalk {s : State} {c : Call} (hsrc : fitsAddr s.params.addrW (srcNeed c) = true)
    (hdst : fitsAddr s.params.addrW (dstNeed c) = true) (hcheck : checkCall c s.src.len s.dst.len = none)
    (hblocks : blockCount c.width * blockCount c.height ≠ 0) : WalkOk s (startWalk c) := by
  obtain ⟨hx, hy⟩ := Nat.mul_ne_zero_iff.mp hblocks
  obtain ⟨hsrcLen, -, hdstLen⟩ := checkCall_eq_none.mp hcheck
  have hcursor : 0 = unitOffset c 0 0 := by simp [unitOffset]
  exact ⟨rfl, rfl, rfl, Nat.pos_of_ne_zero hx, Nat.pos_of_ne_zero hy, hcursor, hsrcLen, hdstLen, hsrc, hdst⟩

/-! ### The invariant of the walker in front -/

/-- A walker without a running call has the invariant when its buffers are in canonical form. -/
theorem walkerOk_of_no_walk {s : State} (hsrc : s.src.wf) (hdst : s.dst.wf) (hw : s.walk = none) : WalkerOk s :=
  ⟨hsrc, hdst, fun w h => by rw [hw] at h; cases h⟩

/-- The step of a walk keeps the invariant (R243 to R245). -/
theorem WalkerOk.after_walkStep {s t : State} {w : Walk} (h : WalkerOk s) (hw : s.walk = some w)
    (ht : walkStep w s = .next t) : WalkerOk t := by
  have hok := h.walk_ok w hw
  obtain rfl := Host.Outcome.next.inj ((walkStep_of_walkOk hok).symm.trans ht)
  refine ⟨by simpa using h.src_wf, by simpa using s.dst.storeAll_wf _ h.dst_wf, fun w' hw' => ?_⟩
  exact walkOk_congr (hok.after_advanceWalk hw') (by simp) (by simp) (by simp)

/-- The start of a call keeps the invariant (R242, R244, R264). -/
theorem WalkerOk.after_startCall {s t : State} {c : Call} (h : WalkerOk s) (ht : startCall c s = .next t) :
    WalkerOk t := by
  rcases startCall_cases c s with ⟨-, he⟩ | ⟨hfits, ⟨e, -, he⟩ | ⟨-, -, he⟩ | ⟨hcheck, hblocks, he⟩⟩
  · cases he.symm.trans ht
  · obtain rfl := Host.Outcome.next.inj (he.symm.trans ht)
    exact walkerOk_of_no_walk h.src_wf h.dst_wf rfl
  · obtain rfl := Host.Outcome.next.inj (he.symm.trans ht)
    exact walkerOk_of_no_walk h.src_wf h.dst_wf rfl
  · obtain rfl := Host.Outcome.next.inj (he.symm.trans ht)
    obtain ⟨hsrc, hdst⟩ := Bool.and_eq_true_iff.mp hfits
    refine ⟨h.src_wf, h.dst_wf, fun w hw => ?_⟩
    obtain rfl := Option.some.inj hw
    exact walkOk_congr (walkOk_startWalk hsrc hdst hcheck hblocks) rfl rfl rfl

/-- Every step keeps the invariant of the walker in front. -/
theorem WalkerOk.after_step {s t : State} (h : WalkerOk s) (ht : step s = .next t) : WalkerOk t := by
  rcases step_cases s with ⟨r, rest, -, he⟩ | ⟨w, -, hw, he⟩ | ⟨c, -, -, -, he⟩ | ⟨-, -, -, he⟩
  · obtain ⟨c, rfl⟩ := serve_next (he.symm.trans ht)
    exact walkerOk_congr h rfl rfl rfl rfl
  · exact h.after_walkStep hw (he.symm.trans ht)
  · exact h.after_startCall (he.symm.trans ht)
  · obtain rfl := Host.Outcome.next.inj (he.symm.trans ht)
    exact h

/-- What the invariant says of another walker speaks of that walker and the parameters alone. -/
theorem walkerOk_withWalker_congr {s t : State} {v : Walker} (h : WalkerOk (s.withWalker v)) (hp : t.params = s.params) :
    WalkerOk (t.withWalker v) :=
  walkerOk_congr h hp rfl rfl rfl

namespace MemoryFamily

/-- Settles O33: the walker in front keeps its part by the cases of the step; the others are not touched. -/
theorem stepKeepsTheInvariant : Obligations.StepKeepsTheInvariant := by
  intro s t h ht
  obtain ⟨hparams, -, -, -, hothers, -⟩ := StateFamily.stepWritesOnlyTheDestinationOfAWalk s t ht
  refine ⟨h.toWalkerOk.after_step ht, fun v hv => ?_⟩
  exact walkerOk_withWalker_congr (h.others_ok v (hothers ▸ hv)) hparams

/-- Settles O48: the step is `walkStep_of_walkOk`; the clauses are what its three parts write. -/
theorem walkStepDecodesOneBlock : Obligations.WalkStepDecodesOneBlock := by
  intro s w h hr hw
  have hok := h.walk_ok w hw
  have hx : w.bx < blockCount w.call.width := hok.countX ▸ hok.bx_lt
  have hy : w.bY < blockCount w.call.height := hok.countY ▸ hok.bY_lt
  refine ⟨_, _, (step_of_walk hr hw).trans (walkStep_of_walkOk hok), exec_unitInstr w s, by simp, by simp, by simpa,
    by simp, by simp, fun i j ch => ?_, fun a ha => ?_, fun hcol => ?_, fun hend hrow => ?_, fun hend hlast => ?_⟩
  · simpa using read_storeAll_blockCells h.dst_wf hx hy hok.dest _ i j ch
  · have hother : ∀ x ∈ blockCells w.call w.bx w.bY (blockDecoded w s).core.px, x.1 ≠ a := by
      intro x hxm
      obtain ⟨i, j, ch, rfl⟩ := mem_blockCells_iff.mp hxm
      exact (ha i j ch).symm
    simpa using s.dst.read_storeAll_of_notMem _ a h.dst_wf (blockCells_inRange hx hy hok.dest _) hother
  · rw [advanceWalk_of_column _ (hok.countX ▸ hcol)]
    exact ⟨rfl, rfl⟩
  · rw [advanceWalk_of_row _ (by rw [hok.countX]; omega) (hok.countY ▸ hrow)]
    exact ⟨rfl, rfl⟩
  · rw [advanceWalk_of_last _ (by rw [hok.countX]; omega) (by rw [hok.countY]; omega)]
    exact ⟨rfl, rfl⟩

end MemoryFamily

end Sys2Proof
end

section
/-! PROOFS. The family of spec/20_memory.md, continued: what a call that passes its checks leaves in the destination
(R64, R65, R248). -/

namespace Sys2Proof

open Machine Claim

namespace Machine

/-! ### The grid in row-major order (R243) -/

/-- The number of a block gives its coordinates back. -/
theorem grid_coordinates {n x : Nat} (y : Nat) (hx : x < n) : (y * n + x) % n = x ∧ (y * n + x) / n = y := by
  have hn : 0 < n := by omega
  have h := (Nat.div_mod_unique hn).mpr ⟨show x + n * y = y * n + x by ring, hx⟩
  exact ⟨h.2, h.1⟩

/-- The number of a block in the grid is below the number of blocks. -/
theorem grid_index_lt {nx ny x y : Nat} (hx : x < nx) (hy : y < ny) : y * nx + x < nx * ny :=
  calc y * nx + x < (y + 1) * nx := by rw [Nat.add_mul]; omega
    _ ≤ ny * nx := Nat.mul_le_mul_right nx hy
    _ = nx * ny := Nat.mul_comm _ _

/-- The coordinates of a number below the number of blocks lie in the grid. -/
theorem grid_coordinates_lt {nx ny k : Nat} (h : k < nx * ny) : k % nx < nx ∧ k / nx < ny :=
  ⟨Nat.mod_lt k (Nat.pos_of_ne_zero (by rintro rfl; simp at h)), Nat.div_lt_of_lt_mul h⟩

/-- The next number inside a row of blocks. -/
theorem grid_next_column {n k : Nat} (h : k % n + 1 < n) : (k + 1) % n = k % n + 1 ∧ (k + 1) / n = k / n := by
  have hk : k + 1 = k / n * n + (k % n + 1) := by rw [← Nat.add_assoc, Nat.div_add_mod']
  rw [hk]
  exact grid_coordinates (k / n) h

/-- The next number at the end of a row of blocks. -/
theorem grid_next_row {n k : Nat} (h : k % n + 1 = n) : (k + 1) % n = 0 ∧ (k + 1) / n = k / n + 1 := by
  have hk : k + 1 = (k / n + 1) * n + 0 := by
    have := Nat.div_add_mod' k n
    rw [Nat.add_mul]
    omega
  rw [hk]
  exact grid_coordinates (k / n + 1) (by omega)

/-! ### A call after its first `k` blocks -/

/-- The running call before its block number `k` (R243). -/
def walkAt (c : Call) (k : Nat) : Walk where
  call := c
  blockCountX := blockCount c.width
  blockCountY := blockCount c.height
  rowPitch := pitchOf c.width
  bx := k % blockCount c.width
  bY := k / blockCount c.width
  sp := k * unitSize c.variant

theorem startWalk_eq_walkAt (c : Call) : startWalk c = walkAt c 0 := by
  simp [startWalk, walkAt]

/-- The walker moves on to the next number, or returns after the last one (R243, R244). -/
theorem advanceWalk_walkAt {c : Call} {k : Nat} (hk : k < blockCount c.width * blockCount c.height) (s : State) :
    advanceWalk (walkAt c k) s =
      if k + 1 < blockCount c.width * blockCount c.height then s.withWalk (some (walkAt c (k + 1))) none
      else returnOk s := by
  have hnumber := Nat.div_add_mod' k (blockCount c.width)
  obtain ⟨hx, hy⟩ := grid_coordinates_lt hk
  by_cases hcol : k % blockCount c.width + 1 < blockCount c.width
  · obtain ⟨hmod, hdiv⟩ := grid_next_column hcol
    have hlt := grid_index_lt hcol hy
    rw [advanceWalk_of_column s hcol, if_pos (by omega)]
    simp only [walkAt, hmod, hdiv, Nat.succ_mul]
  · obtain ⟨hmod, hdiv⟩ := grid_next_row (show k % blockCount c.width + 1 = blockCount c.width by omega)
    by_cases hrow : k / blockCount c.width + 1 < blockCount c.height
    · have hlt := grid_index_lt (Nat.zero_lt_of_lt hx) hrow
      rw [Nat.add_mul] at hlt
      rw [advanceWalk_of_row s hcol hrow, if_pos (by omega)]
      simp only [walkAt, hmod, hdiv, Nat.succ_mul]
    · have hlast : blockCount c.height = k / blockCount c.width + 1 := by omega
      rw [advanceWalk_of_last s hcol hrow, if_neg]
      rw [hlast, Nat.mul_add, Nat.mul_comm]
      omega

/-- The bytes that block number `k` of a call made in state `s` is written as. -/
def decodedCells (s : State) (c : Call) (k : Nat) : List Host.Cell :=
  blockCells c (k % blockCount c.width) (k / blockCount c.width)
    (pxAfter (unitInstr c s.src (k % blockCount c.width) (k / blockCount c.width)) s)

/-- The state `t` of a call made in state `s` when the start and the first `k` blocks are done: the source and the
parameters are as they were, the bytes of these blocks are stored in their order, and after the last block the call has
returned. -/
structure BlocksDone (s : State) (c : Call) (k : Nat) (t : State) : Prop where
  params : t.params = s.params
  requests : t.requests = []
  src : t.src = s.src
  dst : t.dst = s.dst.storeAll ((List.range k).flatMap (decodedCells s c))
  call : t.call = none
  walk : t.walk = if k < blockCount c.width * blockCount c.height then some (walkAt c k) else none
  status : t.status = if k < blockCount c.width * blockCount c.height then none else some .ok

/-- The pixels that the walker writes for a unit are those of the same unit in any state with these parameters. -/
theorem pxAfter_unitInstr_congr {s t : State} (c : Call) (m : Memory) (bx bY : Nat) (hp : t.params = s.params) :
    pxAfter (unitInstr c m bx bY) t = pxAfter (unitInstr c m bx bY) s := by
  simp only [pxAfter, exec_eq, State.withCore_core, unitInstr_eq]
  exact unitAt_px_congr _ m _ s.core t.core (by rw [hp]) (by rw [hp]) (by rw [hp])

/-- The start of a call that passes its checks (R242, R244, R247). -/
theorem BlocksDone.start {s : State} {c : Call} (h : CallWaits s c) (hpass : ChecksPass s c) :
    ∃ t, step s = .next t ∧ BlocksDone s c 0 t := by
  have hstep := step_of_waiting_call h.requests h.walk h.call
  by_cases hblocks : blockCount c.width * blockCount c.height = 0
  · have hnone := checkCall_eq_none.mpr ⟨hpass.source, hpass.destMin, hpass.destNeed⟩
    have hstart : startCall c s = .next (returnOk (s.withCall none)) := by
      simp [startCall, h.srcFits, h.dstFits, hnone, hblocks]
    exact ⟨_, hstep.trans hstart, rfl, h.requests, rfl, rfl, rfl, by rw [hblocks]; rfl, by rw [hblocks]; rfl⟩
  · refine ⟨_, hstep.trans (startCall_of_pass h.srcFits h.dstFits hpass hblocks), rfl, h.requests, rfl, rfl, rfl, ?_, ?_⟩
    · rw [if_pos (Nat.pos_of_ne_zero hblocks), ← startWalk_eq_walkAt]
      rfl
    · rw [if_pos (Nat.pos_of_ne_zero hblocks)]
      rfl

/-- The invariant of the running call before block number `k`. -/
theorem BlocksDone.walkOk {s t : State} {c : Call} {k : Nat} (h : CallWaits s c) (hpass : ChecksPass s c)
    (hk : k < blockCount c.width * blockCount c.height) (hd : BlocksDone s c k t) : WalkOk t (walkAt c k) where
  countX := rfl
  countY := rfl
  pitch := rfl
  bx_lt := (grid_coordinates_lt hk).1
  bY_lt := (grid_coordinates_lt hk).2
  cursor := by simp only [walkAt, unitOffset, Nat.div_add_mod']
  source := hd.src ▸ hpass.source
  dest := by rw [hd.dst, Memory.storeAll_len]; exact hpass.destNeed
  srcFits := hd.params ▸ h.srcFits
  dstFits := hd.params ▸ h.dstFits

/-- One more block (R245). -/
theorem BlocksDone.next {s t : State} {c : Call} {k : Nat} (h : CallWaits s c) (hpass : ChecksPass s c)
    (hk : k < blockCount c.width * blockCount c.height) (hd : BlocksDone s c k t) :
    ∃ t', step t = .next t' ∧ BlocksDone s c (k + 1) t' := by
  have hwalk : t.walk = some (walkAt c k) := by rw [hd.walk, if_pos hk]
  have hpx : (blockDecoded (walkAt c k) t).core.px =
      pxAfter (unitInstr c s.src (k % blockCount c.width) (k / blockCount c.width)) s := by
    rw [← pxAfter_unitInstr_congr c _ _ _ hd.params, ← hd.src]
    simp only [pxAfter, exec_eq]
    rfl
  have hdst : (blockWritten (walkAt c k) t).dst =
      s.dst.storeAll ((List.range (k + 1)).flatMap (decodedCells s c)) := by
    rw [blockWritten_dst, hpx, hd.dst, List.range_succ, List.flatMap_append, Memory.storeAll_append,
      List.flatMap_singleton]
    rfl
  refine ⟨_, (step_of_walk hd.requests hwalk).trans (walkStep_of_walkOk (hd.walkOk h hpass hk)),
    by simp [hd.params], by simp [hd.requests], by simp [hd.src], by simpa using hdst, by simp [hd.call], ?_, ?_⟩ <;>
  · rw [advanceWalk_walkAt hk]
    split <;> rfl

/-! ### The run of a call -/

/-- A run begins with its first step. -/
theorem run_succ {s t : State} (n : Nat) (h : step s = .next t) :
    Host.Core.run Sys2Proof.core (n + 1) s = Host.Core.run Sys2Proof.core n t := by
  have hs : Sys2Proof.core.step s = .next t := h
  simp only [Host.Core.run, hs]

/-- What holds at `k` and goes on with every step below `k + n` holds after `n` steps, which all answer. -/
theorem run_of_step {P : Nat → State → Prop} (n k : Nat) (s : State) (h : P k s)
    (hstep : ∀ j t, j < k + n → P j t → ∃ t', step t = .next t' ∧ P (j + 1) t') :
    ∃ t, Host.Core.run Sys2Proof.core n s = .next t ∧ P (k + n) t := by
  induction n generalizing k s with
  | zero => exact ⟨s, rfl, h⟩
  | succ n ih =>
    obtain ⟨u, hu, hP⟩ := hstep k s (by omega) h
    obtain ⟨t, ht, hPt⟩ := ih (k + 1) u hP fun j t hj => hstep j t (by omega)
    exact ⟨t, (run_succ n hu).trans ht, by rwa [Nat.add_right_comm] at hPt⟩

/-- A call that passes its checks runs through all its blocks, one step for its start and one for each (R248). -/
theorem run_call {s : State} {c : Call} (h : CallWaits s c) (hpass : ChecksPass s c) :
    ∃ t, Host.Core.run Sys2Proof.core (1 + blockCount c.width * blockCount c.height) s = .next t ∧
      BlocksDone s c (blockCount c.width * blockCount c.height) t := by
  obtain ⟨u, hu, hstart⟩ := BlocksDone.start h hpass
  obtain ⟨t, ht, hdone⟩ := run_of_step (P := BlocksDone s c) (blockCount c.width * blockCount c.height) 0 u hstart
    fun k v hk hv => hv.next h hpass (by omega)
  rw [Nat.zero_add] at hdone
  rw [Nat.add_comm 1]
  exact ⟨t, (run_succ _ hu).trans ht, hdone⟩

/-! ### The later block stands (R64) -/

/-- Of lists stored one after the other, those after number `b` do not matter to an address that none of them names. -/
theorem Memory.read_storeAll_flatMap {m : Memory} (hm : m.wf) {f : Nat → List Host.Cell} {n b a : Nat} (hb : b < n)
    (hr : ∀ k < n, ∀ x ∈ f k, x.1 < m.len) (hlater : ∀ k < n, b < k → ∀ x ∈ f k, x.1 ≠ a) :
    (m.storeAll ((List.range n).flatMap f)).read a = ((m.storeAll ((List.range b).flatMap f)).storeAll (f b)).read a := by
  induction n with
  | zero => exact absurd hb (Nat.not_lt_zero b)
  | succ n ih =>
    rw [List.range_succ, List.flatMap_append, Memory.storeAll_append, List.flatMap_singleton]
    rcases (Nat.le_of_lt_succ hb).eq_or_lt with rfl | hlt
    · rfl
    · rw [Memory.read_storeAll_of_notMem _ _ _ (m.storeAll_wf _ hm)
        (fun x hx => by simpa using hr n (Nat.lt_succ_self n) x hx) (hlater n (Nat.lt_succ_self n) hlt)]
      exact ih hlt (fun k hk => hr k (hk.trans (Nat.lt_succ_self n)))
        fun k hk => hlater k (hk.trans (Nat.lt_succ_self n))

/-- The bytes of a block of the grid, by its number, lie in the destination of a call that passes its checks (R58). -/
theorem decodedCells_inRange {s : State} {c : Call} (hpass : ChecksPass s c) {k : Nat}
    (hk : k < blockCount c.width * blockCount c.height) : ∀ x ∈ decodedCells s c k, x.1 < s.dst.len :=
  blockCells_inRange (grid_coordinates_lt hk).1 (grid_coordinates_lt hk).2 hpass.destNeed _

end Machine

namespace MemoryFamily

/-- Settles O51: the blocks are stored in the order of their numbers (`run_call`), so that of the lists stored the last
one that names a byte of the block is the block's own. -/
theorem laterBlockStandsInTheDestination : Obligations.LaterBlockStandsInTheDestination := by
  intro s c h hpass
  obtain ⟨t, ht, hdone⟩ := run_call h hpass
  refine ⟨t, ht, fun bx bY hx hy i j ch hlater => ?_⟩
  obtain ⟨hmod, hdiv⟩ := grid_coordinates bY hx
  have hlast : ∀ k < blockCount c.width * blockCount c.height, bY * blockCount c.width + bx < k →
      ∀ x ∈ decodedCells s c k, x.1 ≠ byteAddr c bx bY i j ch := by
    intro k hk hlt x hxm
    obtain ⟨i', j', ch', rfl⟩ := mem_blockCells_iff.mp hxm
    obtain ⟨hkx, hky⟩ := grid_coordinates_lt hk
    exact hlater _ _ hkx hky (by rwa [Nat.div_add_mod']) i' j' ch'
  rw [hdone.dst, Memory.read_storeAll_flatMap h.dst_wf (grid_index_lt hx hy)
    (fun k hk => decodedCells_inRange hpass hk) hlast]
  unfold decodedCells
  rw [hmod, hdiv]
  exact read_storeAll_blockCells (s.dst.storeAll_wf _ h.dst_wf) hx hy (by simpa using hpass.destNeed) _ i j ch

end MemoryFamily

end Sys2Proof
end

section
/-! PROOFS. The family of spec/20_memory.md, concluded: what the outside does between two steps, and two calls that run
at the same time on separate buffers (R65, R240, R250, R265, R282). -/

namespace Sys2Proof

open Machine Claim

namespace Machine

/-! ### The turn of the walkers -/

/-- With one walker the turn stays. -/
theorem State.nextWalker_nil {s : State} (h : s.otherWalkers = []) : s.nextWalker = s := by
  unfold State.nextWalker
  split <;> simp_all

/-- With two walkers the turn comes back after two. -/
theorem State.nextWalker_nextWalker {s : State} {v : Walker} (h : s.otherWalkers = [v]) :
    s.nextWalker.nextWalker = s := by
  rw [State.nextWalker_cons h]
  calc ((s.withWalker v).withOtherWalkers [s.walker]).nextWalker = s.withOtherWalkers [v] := rfl
    _ = s := by rw [← h]; rfl

/-! ### The other walkers do not matter to a step (R250) -/

/-- An outcome with its next state changed. -/
def mapNext (f : State → State) : Host.Outcome State Fault Refusal → Host.Outcome State Fault Refusal
  | .next s => .next (f s)
  | .fault r => .fault r
  | .refused r => .refused r

theorem nextCore_withOtherWalkers (s : State) (vs : List Walker) :
    (s.withOtherWalkers vs).nextCore = s.nextCore.withOtherWalkers vs := by
  unfold State.nextCore
  rw [State.withOtherWalkers_otherCores]
  cases s.otherCores <;> rfl

theorem advanceWalk_withOtherWalkers (w : Walk) (s : State) (vs : List Walker) :
    advanceWalk w (s.withOtherWalkers vs) = (advanceWalk w s).withOtherWalkers vs := by
  unfold advanceWalk
  split_ifs <;> rfl

theorem serve_withOtherWalkers (r : Request) (s : State) (vs : List Walker) :
    serve r (s.withOtherWalkers vs) = mapNext (·.withOtherWalkers vs) (serve r s) := by
  unfold serve
  cases decode r.sel r.bytes with
  | ok i => simp only [exec_eq]; rfl
  | error e => rfl

theorem writeBack_withOtherWalkers (w : Walk) (s : State) (vs : List Walker) :
    writeBack w (s.withOtherWalkers vs) = mapNext (·.withOtherWalkers vs) (writeBack w s) := by
  unfold writeBack
  rw [State.withOtherWalkers_dst, State.withOtherWalkers_core]
  cases memWrite s.dst (footprintCells (blockOffset w.rowPitch w.bx w.bY) w.rowPitch s.core.px) with
  | none => rfl
  | some m =>
    simp only [mapNext, ← advanceWalk_withOtherWalkers, ← nextCore_withOtherWalkers]
    rfl

theorem walkStep_withOtherWalkers (w : Walk) (s : State) (vs : List Walker) :
    walkStep w (s.withOtherWalkers vs) = mapNext (·.withOtherWalkers vs) (walkStep w s) := by
  by_cases h : w.sp + unitSize w.call.variant ≤ s.src.len
  · rw [walkStep_of_fits h, ← writeBack_withOtherWalkers]
    exact walkStep_of_fits (s := s.withOtherWalkers vs) h
  · rw [walkStep_of_not_fits h]
    exact walkStep_of_not_fits (s := s.withOtherWalkers vs) h

theorem startCall_withOtherWalkers (c : Call) (s : State) (vs : List Walker) :
    startCall c (s.withOtherWalkers vs) = mapNext (·.withOtherWalkers vs) (startCall c s) := by
  unfold startCall
  rw [State.withOtherWalkers_params, State.withOtherWalkers_src, State.withOtherWalkers_dst]
  split
  · cases checkCall c s.src.len s.dst.len with
    | some e => rfl
    | none =>
      dsimp only
      split <;> rfl
  · rfl

/-- A step moves the walker in front and is the same whoever stands behind it (R250). -/
theorem step_withOtherWalkers (s : State) (vs : List Walker) :
    step (s.withOtherWalkers vs) = mapNext (·.withOtherWalkers vs) (step s) := by
  rcases step_cases s with ⟨r, rest, hr, he⟩ | ⟨w, hr, hw, he⟩ | ⟨c, hr, hw, hc, he⟩ | ⟨hr, hw, hc, he⟩ <;> rw [he]
  · rw [← serve_withOtherWalkers]
    exact step_of_request (s := s.withOtherWalkers vs) hr
  · rw [← walkStep_withOtherWalkers]
    exact step_of_walk (s := s.withOtherWalkers vs) hr hw
  · rw [← startCall_withOtherWalkers]
    exact step_of_waiting_call (s := s.withOtherWalkers vs) hr hw hc
  · simp [step, hr, hw, hc, mapNext]

/-! ### The registers of the cores do not matter to a step (R250, R270) -/

theorem nextCore_eq_withCores (s : State) : ∃ k ks, s.nextCore = s.withCores k ks := by
  unfold State.nextCore
  split
  · exact ⟨s.core, s.otherCores, rfl⟩
  · exact ⟨_, _, rfl⟩

end Machine

namespace Claim.SameButCores

variable {s s' : State}

/-! Every update of both states at once keeps them the same but for the cores. -/

theorem withCores (h : SameButCores s s') (k k' : Core) (ks ks' : List Core) :
    SameButCores (s.withCores k ks) (s'.withCores k' ks') := { h with }

theorem withRequests (h : SameButCores s s') (rs : List Request) :
    SameButCores (s.withRequests rs) (s'.withRequests rs) := { h with requests := rfl }

theorem withDst (h : SameButCores s s') (m : Memory) : SameButCores (s.withDst m) (s'.withDst m) :=
  { h with dst := rfl }

theorem withCall (h : SameButCores s s') (c : Option Call) : SameButCores (s.withCall c) (s'.withCall c) :=
  { h with call := rfl }

theorem withWalk (h : SameButCores s s') (w : Option Walk) (st : Option Status) :
    SameButCores (s.withWalk w st) (s'.withWalk w st) := { h with walk := rfl, status := rfl }

theorem nextCore (h : SameButCores s s') : SameButCores s.nextCore s'.nextCore := by
  obtain ⟨k, ks, hs⟩ := nextCore_eq_withCores s
  obtain ⟨k', ks', hs'⟩ := nextCore_eq_withCores s'
  rw [hs, hs']
  exact h.withCores k k' ks ks'

theorem advanceWalk (h : SameButCores s s') (w : Walk) :
    SameButCores (Machine.advanceWalk w s) (Machine.advanceWalk w s') := by
  unfold Machine.advanceWalk
  split_ifs
  · exact h.withWalk _ _
  · exact h.withWalk _ _
  · exact h.withWalk none (some .ok)

/-- A request is served alike. -/
theorem serve (h : SameButCores s s') (r : Request) : SameOutcome (Machine.serve r s) (Machine.serve r s') := by
  unfold Machine.serve
  cases decode r.sel r.bytes with
  | ok i =>
    simp only [exec_eq]
    exact h.withCores _ _ s.otherCores s'.otherCores
  | error e => rfl

/-- Equal pixels are written back alike. -/
theorem writeBack (h : SameButCores s s') (hpx : s'.core.px = s.core.px) (w : Walk) :
    SameOutcome (Machine.writeBack w s) (Machine.writeBack w s') := by
  unfold Machine.writeBack
  rw [hpx, h.dst]
  cases memWrite s.dst (footprintCells (blockOffset w.rowPitch w.bx w.bY) w.rowPitch s.core.px) with
  | none => rfl
  | some m => exact (((h.withDst m).withCores _ _ s.otherCores s'.otherCores).nextCore).advanceWalk w

/-- A walk moves alike: the pixels of its block do not depend on the registers (R36). -/
theorem walkStep (h : SameButCores s s') (w : Walk) :
    SameOutcome (Machine.walkStep w s) (Machine.walkStep w s') := by
  by_cases hfits : w.sp + unitSize w.call.variant ≤ s.src.len
  · rw [walkStep_of_fits hfits, walkStep_of_fits (h.src ▸ hfits), h.src]
    exact (h.withCores _ _ s.otherCores s'.otherCores).writeBack
      (unitAt_px_congr _ _ _ _ _ h.imod h.amod h.legacy) w
  · rw [walkStep_of_not_fits hfits, walkStep_of_not_fits (h.src ▸ hfits), h.src]
    rfl

/-- A call is taken up alike. -/
theorem startCall (h : SameButCores s s') (c : Call) :
    SameOutcome (Machine.startCall c s) (Machine.startCall c s') := by
  unfold Machine.startCall
  rw [h.addrW, h.src, h.dst]
  split
  · cases checkCall c s.src.len s.dst.len with
    | some e => exact (h.withCall none).withWalk none (some (.error e))
    | none =>
      dsimp only
      split
      · exact (h.withCall none).withWalk none (some .ok)
      · exact (h.withCall none).withWalk (some (startWalk c)) none
  · rfl

/-- One step of two states that differ at most in the cores and in `P_LATENCY` ends alike. -/
theorem step (h : SameButCores s s') : SameOutcome (Machine.step s) (Machine.step s') := by
  rcases step_cases s with ⟨r, rest, hr, he⟩ | ⟨w, hr, hw, he⟩ | ⟨c, hr, hw, hc, he⟩ | ⟨hr, hw, hc, he⟩ <;> rw [he]
  · rw [step_of_request (h.requests.trans hr)]
    exact (h.withRequests rest).serve r
  · rw [step_of_walk (h.requests.trans hr) (h.walk.trans hw)]
    exact h.walkStep w
  · rw [step_of_waiting_call (h.requests.trans hr) (h.walk.trans hw) (h.call.trans hc)]
    exact h.startCall c
  · have hidle : Machine.step s' = .next s' := by
      simp only [Machine.step, h.requests.trans hr, h.walk.trans hw, h.call.trans hc]
    rw [hidle]
    exact h

end Claim.SameButCores

namespace Machine

/-! ### One step of each of two walkers (R250) -/

/-- An outcome that is the same as a next state's is a next state. -/
theorem next_of_sameOutcome {t : State} {o : Host.Outcome State Fault Refusal} (h : SameOutcome (.next t) o) :
    ∃ t', o = .next t' ∧ SameButCores t t' := by
  cases o with
  | next t' => exact ⟨t', rfl, h⟩
  | fault r => exact h.elim
  | refused r => exact h.elim

/-- A step with nothing presented presents nothing. -/
theorem step_requests_nil {s t : State} (hr : s.requests = []) (ht : step s = .next t) : t.requests = [] := by
  rcases step_cases s with ⟨r, rest, hr', -⟩ | ⟨w, -, -, he⟩ | ⟨c, -, -, -, he⟩ | ⟨-, -, -, he⟩
  · cases hr.symm.trans hr'
  · rcases walkStep_cases w s with ⟨-, hf⟩ | ⟨-, i, -, hw⟩
    · cases (he.symm.trans ht).symm.trans hf
    · obtain ⟨m, -, rfl⟩ := writeBack_next (hw.symm.trans (he.symm.trans ht))
      simpa using hr
  · obtain ⟨w, st, rfl⟩ := startCall_next (he.symm.trans ht)
    exact hr
  · obtain rfl := Host.Outcome.next.inj (he.symm.trans ht)
    exact hr

/-- After a step of the walker in front the one behind it takes the step that it could have taken before, to the same
state but for the cores and the walker that has moved. -/
theorem step_behind {s t u : State} {v : Walker} (hr : s.requests = []) (hv : s.otherWalkers = [v])
    (ht : step s = .next t) (hu : step s.nextWalker = .next u) :
    ∃ t', step t.nextWalker = .next t' ∧ SameButCores (u.withOtherWalkers [t.walker]) t' := by
  obtain ⟨hparams, -, -, -, hothers, -⟩ := StateFamily.stepWritesOnlyTheDestinationOfAWalk s t ht
  have hbehind : step (s.nextWalker.withOtherWalkers [t.walker]) = .next (u.withOtherWalkers [t.walker]) := by
    rw [step_withOtherWalkers, hu]
    rfl
  have hsame : SameButCores (s.nextWalker.withOtherWalkers [t.walker]) t.nextWalker := by
    rw [State.nextWalker_cons hv, State.nextWalker_cons (hothers.trans hv)]
    exact ⟨by simp [hparams], by simp [hparams], by simp [hparams], by simp [hparams],
      (step_requests_nil hr ht).trans hr.symm, rfl, rfl, rfl, rfl, rfl, rfl, rfl⟩
  have hstep := hsame.step
  rw [hbehind] at hstep
  exact next_of_sameOutcome hstep

end Machine

namespace MemoryFamily

/-- Settles O58: every walker that an action leaves had the invariant before, or has canonical buffers and no running
call. -/
theorem outsideActionsKeepTheInvariant : Obligations.OutsideActionsKeepTheInvariant := by
  intro s h
  refine ⟨?reset, ?turn, fun r => ?request, fun c src dst hsrc hdst => ?call⟩
  case reset =>
    refine ⟨walkerOk_of_no_walk h.src_wf h.dst_wf rfl, fun v hv => ?_⟩
    obtain ⟨u, hu, rfl⟩ := List.mem_map.mp hv
    exact walkerOk_of_no_walk (h.others_ok u hu).src_wf (h.others_ok u hu).dst_wf rfl
  case turn =>
    cases hothers : s.otherWalkers with
    | nil => rwa [State.nextWalker_nil hothers]
    | cons v vs =>
      rw [State.nextWalker_cons hothers]
      have hv : WalkerOk (s.withWalker v) := h.others_ok v (by simp [hothers])
      refine ⟨walkerOk_congr hv rfl rfl rfl rfl, fun u hu => ?_⟩
      rcases List.mem_append.mp hu with hu | hu
      · exact walkerOk_withWalker_congr (h.others_ok u (by simp [hothers, hu])) rfl
      · obtain rfl := List.mem_singleton.mp hu
        exact walkerOk_congr h.toWalkerOk rfl rfl rfl rfl
  case request =>
    exact ⟨walkerOk_congr h.toWalkerOk rfl rfl rfl rfl, fun v hv => walkerOk_withWalker_congr (h.others_ok v hv) rfl⟩
  case call =>
    by_cases hbusy : s.call ≠ none ∨ s.walk ≠ none
    · rw [State.makeCall_of_busy hbusy]
      refine ⟨walkerOk_congr h.toWalkerOk rfl rfl rfl rfl, fun v hv => ?_⟩
      rcases List.mem_append.mp hv with hv | hv
      · exact walkerOk_withWalker_congr (h.others_ok v hv) rfl
      · obtain rfl := List.mem_singleton.mp hv
        exact walkerOk_of_no_walk hsrc hdst rfl
    · obtain ⟨hcall, hwalk⟩ : s.call = none ∧ s.walk = none := by simpa using hbusy
      rw [State.makeCall_of_free hcall hwalk]
      exact ⟨walkerOk_of_no_walk hsrc hdst hwalk, fun v hv => walkerOk_withWalker_congr (h.others_ok v hv) rfl⟩

/-- Settles O59: `step_behind` in both orders; with two walkers the turn comes back after two. -/
theorem callsOnSeparateBuffersDoNotInteract : Obligations.CallsOnSeparateBuffersDoNotInteract := by
  intro s t u v hr hv ht hu
  have hr' : s.nextWalker.requests = [] := by rw [State.nextWalker_cons hv]; exact hr
  have hv' : s.nextWalker.otherWalkers = [s.walker] := by rw [State.nextWalker_cons hv]; rfl
  obtain ⟨t', ht', hut⟩ := step_behind hr hv ht hu
  obtain ⟨u', hu', htu⟩ := step_behind hr' hv' hu (by rwa [State.nextWalker_nextWalker hv])
  refine ⟨t', u', ht', hu', ?_⟩
  have hparams : t.params = u.params := by
    rw [(StateFamily.stepWritesOnlyTheDestinationOfAWalk _ _ ht).1,
      (StateFamily.stepWritesOnlyTheDestinationOfAWalk _ _ hu).1, State.nextWalker_cons hv]
    rfl
  have hrequests : t.requests = u.requests := (step_requests_nil hr ht).trans (step_requests_nil hr' hu).symm
  have hmoved : t'.walker = u.walker := by
    simp only [State.walker, hut.src, hut.dst, hut.call, hut.walk, hut.status, hut.dstCut]
    rfl
  rw [State.nextWalker_cons hut.otherWalkers, hmoved]
  exact { htu with
    imod := htu.imod.trans (by simp [hut.imod, hparams])
    amod := htu.amod.trans (by simp [hut.amod, hparams])
    legacy := htu.legacy.trans (by simp [hut.legacy, hparams])
    addrW := htu.addrW.trans (by simp [hut.addrW, hparams])
    requests := htu.requests.trans (by simp [hut.requests, hrequests]) }

/-- Settles O57: a free walker takes the call, a busy one does not; `DST` of a walker with a call is shown to nobody. -/
theorem newCallLeavesARunningCallAlone : Obligations.NewCallLeavesARunningCallAlone := by
  intro s c src dst
  refine ⟨fun hcall hwalk => ?_, fun hbusy => State.makeCall_of_busy hbusy c src dst⟩
  have hfree := State.makeCall_of_free hcall hwalk c src dst
  exact ⟨hfree, State.visibleDst_of_busy (.inl (by simp [hfree]))⟩

end MemoryFamily

end Sys2Proof
end

section
/-! PROOFS. The family of spec/30_encoding.md, first part: the overflow bytes (R81, R82), and that the bytes of a format
determine its fields and the fields its bytes (R83 to R89, R93). -/

namespace Sys2Proof

open Machine Claim

/-! ### Bits -/

/-- A concatenation as a number: the left part on top. -/
theorem toNat_append {m n : Nat} (x : BitVec m) (y : BitVec n) : (x ++ y).toNat = x.toNat * 2 ^ n + y.toNat := by
  rw [BitVec.toNat_append, Nat.shiftLeft_eq, Nat.mul_comm, Nat.two_pow_add_eq_or_of_lt y.isLt]

/-- Bits `hi : lo` as a number. -/
theorem toNat_extractLsb {w : Nat} (x : BitVec w) (hi lo : Nat) :
    (x.extractLsb hi lo).toNat = x.toNat / 2 ^ lo % 2 ^ (hi - lo + 1) := by
  rw [BitVec.extractLsb_toNat, Nat.shiftRight_eq_div_pow]

/-- The diff bit as the statements write it (R81). -/
theorem diffBit_eq_true {b : Byte} : diffBit b = true ↔ bit b 1 = 1 := by
  simp [diffBit, bit, BitVec.getLsbD, Nat.testBit_eq_decide_div_mod_eq]

theorem diffBit_eq_false {b : Byte} : diffBit b = false ↔ bit b 1 = 0 := by
  rw [← Bool.not_eq_true, diffBit_eq_true, bit]
  omega

/-! ### The overflow bytes (R81, R82) -/

/-- A byte overflows when its sum leaves 0..31 (R161). -/
theorem ovf_eq_true {b : Byte} : ovf b = true ↔ sumOfByte b < 0 ∨ 31 < sumOfByte b := by
  simp [ovf, overflows, byteSum_eq_sumOfByte]

theorem ovf_eq_false {b : Byte} : ovf b = false ↔ 0 ≤ sumOfByte b ∧ sumOfByte b ≤ 31 := by
  rw [← Bool.not_eq_true, ovf_eq_true]
  omega

/-- The value of the overflow byte that carries two given pairs of bits (R82). -/
theorem toNat_forceOvf (a c : BitVec 2) : (forceOvf a c).toNat =
    if 4 ≤ a.toNat + c.toNat then 0xE0 + 8 * a.toNat + c.toNat else 8 * a.toNat + 4 + c.toNat := by
  unfold forceOvf
  split_ifs <;> simp only [toNat_append, BitVec.ofNat_eq_ofNat, BitVec.toNat_ofNat] <;> omega

/-- Of the bytes that carry two given pairs of bits exactly one overflows (R82). -/
theorem forceOvf_eq_iff_toNat {a c : BitVec 2} {b : Byte} :
    forceOvf a c = b ↔ ovf b = true ∧ b.toNat / 8 % 4 = a.toNat ∧ b.toNat % 4 = c.toNat := by
  have ha := a.isLt
  have hc := c.isLt
  have hb := b.isLt
  rw [← BitVec.toNat_inj, toNat_forceOvf, ovf_eq_true]
  unfold sumOfByte nat
  split_ifs <;> omega

/-- The same, with the pairs as slices of the byte (R82). -/
theorem forceOvf_eq_iff {a c : BitVec 2} {b : Byte} :
    forceOvf a c = b ↔ ovf b = true ∧ a = b.extractLsb 4 3 ∧ c = b.extractLsb 1 0 := by
  rw [forceOvf_eq_iff_toNat, ← BitVec.toNat_inj (x := a), ← BitVec.toNat_inj (x := c), toNat_extractLsb,
    toNat_extractLsb, eq_comm (a := a.toNat), eq_comm (a := c.toNat)]
  simp

/-! ### Bytes and fields (R83 to R89, R93)

Each format has one lemma: the encoder gives the bytes of a block exactly when the bits that select the format stand in
them and the fields are those that the decoder takes out. Both sides are the same equations between single bits, in
another order. The literal bit positions are evaluated in a pass of their own, since the pass that takes the
concatenations apart must find their widths as the formats write them. -/

/-- Format I: the diff bit is 0 (R83). -/
theorem encodeIndividual_eq_iff {f : IndividualFields} {b : Block} :
    encodeIndividual f = [b.b0, b.b1, b.b2, b.b3] ↔ diffBit b.b3 = false ∧ f = individualFields b := by
  cases f
  simp only [encodeIndividual, individualFields, IndividualFields.mk.injEq, List.cons.injEq, and_true, diffBit]
  simp only [BitVec.eq_of_getLsbD_eq_iff, Nat.forall_lt_succ_right, BitVec.getLsbD_append, BitVec.getLsbD_extractLsb]
  simp only [Nat.reduceAdd, Nat.reduceSub, Nat.reduceLT, decide_true, Bool.true_and, reduceIte, BitVec.reduceGetLsb,
    Bool.false_eq]
  constructor <;> intro h <;> simp [h, -BitVec.getLsbD_eq_getElem]

/-- Format D: the diff bit is 1 (R84). -/
theorem encodeDifferential_eq_iff {f : DifferentialFields} {b : Block} :
    encodeDifferential f = [b.b0, b.b1, b.b2, b.b3] ↔ diffBit b.b3 = true ∧ f = differentialFields b := by
  cases f
  simp only [encodeDifferential, differentialFields, DifferentialFields.mk.injEq, List.cons.injEq, and_true, diffBit]
  simp only [BitVec.eq_of_getLsbD_eq_iff, Nat.forall_lt_succ_right, BitVec.getLsbD_append, BitVec.getLsbD_extractLsb]
  simp only [Nat.reduceAdd, Nat.reduceSub, Nat.reduceLT, decide_true, Bool.true_and, reduceIte, BitVec.reduceGetLsb,
    Bool.true_eq]
  constructor <;> intro h <;> simp [h, -BitVec.getLsbD_eq_getElem]

/-- Format T: the diff bit is 1 and `B0` overflows (R85, R93). -/
theorem encodeT_eq_iff {f : TFields} {b : Block} :
    encodeT f = [b.b0, b.b1, b.b2, b.b3] ↔ (diffBit b.b3 = true ∧ ovf b.b0 = true) ∧ f = tFields b := by
  cases f
  simp only [encodeT, tFields, TFields.mk.injEq, List.cons.injEq, and_true, diffBit, forceOvf_eq_iff]
  simp only [BitVec.eq_of_getLsbD_eq_iff, Nat.forall_lt_succ_right, BitVec.getLsbD_append, BitVec.getLsbD_extractLsb]
  simp only [Nat.reduceAdd, Nat.reduceSub, Nat.reduceLT, decide_true, Bool.true_and, reduceIte, BitVec.reduceGetLsb,
    Bool.true_eq]
  constructor <;> intro h <;> simp [h, -BitVec.getLsbD_eq_getElem]

/-- Format H: the diff bit is 1 and `B1` overflows (R86, R93). -/
theorem encodeH_eq_iff {f : HFields} {b : Block} :
    encodeH f = [b.b0, b.b1, b.b2, b.b3] ↔ (diffBit b.b3 = true ∧ ovf b.b1 = true) ∧ f = hFields b := by
  cases f
  simp only [encodeH, hFields, HFields.mk.injEq, List.cons.injEq, and_true, diffBit, forceOvf_eq_iff]
  simp only [BitVec.eq_of_getLsbD_eq_iff, Nat.forall_lt_succ_right, BitVec.getLsbD_append, BitVec.getLsbD_extractLsb]
  simp only [Nat.reduceAdd, Nat.reduceSub, Nat.reduceLT, decide_true, Bool.true_and, reduceIte, BitVec.reduceGetLsb,
    Bool.true_eq]
  constructor <;> intro h <;> simp [h, -BitVec.getLsbD_eq_getElem]

/-- Format P: the diff bit is 1 and `B2` overflows (R87, R93). -/
theorem encodePlanar_eq_iff {f : PlanarFields} {b : Block} :
    encodePlanar f = b.toBytes ↔ (diffBit b.b3 = true ∧ ovf b.b2 = true) ∧ f = planarFields b := by
  cases f
  simp only [encodePlanar, planarFields, Block.toBytes, PlanarFields.mk.injEq, List.cons.injEq, and_true, diffBit,
    forceOvf_eq_iff]
  simp only [BitVec.eq_of_getLsbD_eq_iff, Nat.forall_lt_succ_right, BitVec.getLsbD_append, BitVec.getLsbD_extractLsb]
  simp only [Nat.reduceAdd, Nat.reduceSub, Nat.reduceLT, decide_true, Bool.true_and, reduceIte, BitVec.reduceGetLsb,
    Bool.true_eq]
  constructor <;> intro h <;> simp [h, -BitVec.getLsbD_eq_getElem]

/-- Format A (R89). -/
theorem encodeAlpha_eq_iff {f : AlphaFields} {a : Block} : encodeAlpha f = [a.b0, a.b1] ↔ f = alphaFields a := by
  cases f
  simp only [encodeAlpha, alphaFields, AlphaFields.mk.injEq, List.cons.injEq, and_true]
  refine and_congr_right fun _ => ?_
  simp only [BitVec.eq_of_getLsbD_eq_iff, Nat.forall_lt_succ_right, BitVec.getLsbD_append, BitVec.getLsbD_extractLsb]
  simp only [Nat.reduceAdd, Nat.reduceSub, Nat.reduceLT, decide_true, Bool.true_and, reduceIte]
  constructor <;> intro h <;> simp [h, -BitVec.getLsbD_eq_getElem]

/-! ### Well-formed fields (R93, R94) -/

/-- A sum overflows with the byte whose parts it adds (R160). -/
theorem overflows_deltaSum_eq_ovf {x : BitVec 5} {y : BitVec 3} {b : Byte} (hx : x = b.extractLsb 7 3)
    (hy : y = b.extractLsb 2 0) : overflows (deltaSum x y) = ovf b := by
  rw [hx, hy, ovf, byteSum]

/-- The fields of format D are well formed when none of the three bytes overflows (R84, R94). -/
theorem differentialFields_wf (b : Block) : (differentialFields b).wf = (!ovf b.b0 && !ovf b.b1 && !ovf b.b2) := rfl

/-- The fields of format H are well formed when `B0` does not overflow (R86, R93). -/
theorem hFields_wf (b : Block) : (hFields b).wf = !ovf b.b0 := by
  rw [HFields.wf, overflows_deltaSum_eq_ovf (b := b.b0)] <;>
  · simp only [hFields, BitVec.eq_of_getLsbD_eq_iff, BitVec.getLsbD_append, BitVec.getLsbD_extractLsb]
    grind

/-- The fields of format P are well formed when neither `B0` nor `B1` overflows (R87, R93). -/
theorem planarFields_wf (b : Block) : (planarFields b).wf = (!ovf b.b0 && !ovf b.b1) := by
  rw [PlanarFields.wf, overflows_deltaSum_eq_ovf (b := b.b0), overflows_deltaSum_eq_ovf (b := b.b1)] <;>
  · simp only [planarFields, BitVec.eq_of_getLsbD_eq_iff, BitVec.getLsbD_append, BitVec.getLsbD_extractLsb]
    grind

/-! ### The index areas (R88, R89) -/

/-- The bits of pixel `k < 8` stand in `B5` and `B7` (R88). -/
theorem idx2Bit_extractIdx2_low (b4 b5 b6 b7 : Byte) {k : Nat} (hk : k < 8) :
    idx2Bit (extractIdx2 b4 b5 b6 b7) 1 k = b5.getLsbD k ∧ idx2Bit (extractIdx2 b4 b5 b6 b7) 0 k = b7.getLsbD k := by
  rw [idx2Bit_eq _ _ k (by omega), idx2Bit_eq _ _ k (by omega), extractIdx2_getElem _ _ _ _ k (by omega), if_pos hk]
  exact index2_bits _ _

/-- The bits of pixel `8 + k` stand in `B4` and `B6` (R88). -/
theorem idx2Bit_extractIdx2_high (b4 b5 b6 b7 : Byte) {k : Nat} (hk : k < 8) :
    idx2Bit (extractIdx2 b4 b5 b6 b7) 1 (8 + k) = b4.getLsbD k ∧
      idx2Bit (extractIdx2 b4 b5 b6 b7) 0 (8 + k) = b6.getLsbD k := by
  rw [idx2Bit_eq _ _ (8 + k) (by omega), idx2Bit_eq _ _ (8 + k) (by omega),
    extractIdx2_getElem _ _ _ _ (8 + k) (by omega), if_neg (by omega), Nat.add_sub_cancel_left]
  exact index2_bits _ _

/-- The 2-bit index area determines its table, and the table its area (R88, R150). -/
theorem packIdx2_eq_iff {v : Idx2Table} {b4 b5 b6 b7 : Byte} :
    packIdx2 v = [b4, b5, b6, b7] ↔ v = extractIdx2 b4 b5 b6 b7 := by
  constructor
  · intro h
    obtain ⟨rfl, rfl, rfl, rfl⟩ : _ ∧ _ ∧ _ ∧ _ := by simpa [packIdx2] using h
    ext1 k hk
    rw [extractIdx2_getElem _ _ _ _ k hk]
    split_ifs with hlow
    · rw [gatherByte_getLsbD _ k hlow, gatherByte_getLsbD _ k hlow, idx2Bit_eq v _ k hk, idx2Bit_eq v _ k hk,
        index2_of_bits]
    · rw [gatherByte_getLsbD _ _ (by omega), gatherByte_getLsbD _ _ (by omega), Nat.add_sub_cancel' (by omega),
        idx2Bit_eq v _ k hk, idx2Bit_eq v _ k hk, index2_of_bits]
  · rintro rfl
    rw [packIdx2, gatherByte_congr fun n hn => (idx2Bit_extractIdx2_high b4 b5 b6 b7 hn).1,
      gatherByte_congr fun n hn => (idx2Bit_extractIdx2_low b4 b5 b6 b7 hn).1,
      gatherByte_congr fun n hn => (idx2Bit_extractIdx2_high b4 b5 b6 b7 hn).2,
      gatherByte_congr fun n hn => (idx2Bit_extractIdx2_low b4 b5 b6 b7 hn).2]
    simp only [gatherByte_self]

/-- What `extractIdx3` gives pixel `k` (R152). -/
theorem extractIdx3_getElem (a2 a3 a4 a5 a6 a7 : Byte) (k : Nat) (h : k < 16) :
    (extractIdx3 a2 a3 a4 a5 a6 a7)[k] =
      if k < 8 then (a2 ++ a3 ++ a4 : BitVec 24).extractLsb' (21 - 3 * k) 3
      else (a5 ++ a6 ++ a7 : BitVec 24).extractLsb' (21 - 3 * (k - 8)) 3 := by
  simp [extractIdx3]

/-- Index `k` of a packed group is entry `j + k` of the table (R89, R152). -/
theorem packGroup_extract_getElem (v : Idx3Table) {j k : Nat} (hk : k < 8) (h : j + k < 16) :
    (packGroup v j).extractLsb' (21 - 3 * k) 3 = v[j + k] := by
  rw [packGroup_extract v k j hk]
  simp [List.getD, h]

/-- A group is its eight indices (R89). -/
theorem group_ext {x y : BitVec 24} (h : ∀ k < 8, x.extractLsb' (21 - 3 * k) 3 = y.extractLsb' (21 - 3 * k) 3) :
    x = y := by
  apply BitVec.eq_of_getLsbD_eq
  intro i hi
  have hbit := congrArg (fun z => z.getLsbD (i % 3)) (h (7 - i / 3) (by omega))
  have hpos : 21 - 3 * (7 - i / 3) + i % 3 = i := by omega
  simpa [hpos, Nat.mod_lt, -BitVec.getLsbD_eq_getElem] using hbit

/-- Three bytes are those of a group exactly when they are the group (R89). -/
theorem groupBytes_eq_iff {g : BitVec 24} {a b c : Byte} : groupBytes g = [a, b, c] ↔ g = a ++ b ++ c := by
  constructor
  · intro h
    obtain ⟨rfl, rfl, rfl⟩ : _ ∧ _ ∧ _ := by simpa [groupBytes] using h
    exact (groupBytes_append g).symm
  · rintro rfl
    simp only [groupBytes, List.cons.injEq, and_true, ← BitVec.toNat_inj, toNat_extractLsb, toNat_append]
    omega

/-- The 3-bit index area determines its table, and the table its area (R89, R152). -/
theorem packIdx3_eq_iff {v : Idx3Table} {a2 a3 a4 a5 a6 a7 : Byte} :
    packIdx3 v = [a2, a3, a4, a5, a6, a7] ↔ v = extractIdx3 a2 a3 a4 a5 a6 a7 := by
  have hsplit : packIdx3 v = [a2, a3, a4] ++ [a5, a6, a7] ↔
      groupBytes (packGroup v 0) = [a2, a3, a4] ∧ groupBytes (packGroup v 8) = [a5, a6, a7] :=
    List.append_eq_append_iff_of_size_eq_left rfl
  rw [show [a2, a3, a4, a5, a6, a7] = [a2, a3, a4] ++ [a5, a6, a7] from rfl, hsplit, groupBytes_eq_iff,
    groupBytes_eq_iff]
  constructor
  · rintro ⟨hlow, hhigh⟩
    ext1 k hk
    rw [extractIdx3_getElem _ _ _ _ _ _ k hk, ← hlow, ← hhigh]
    split_ifs with hk8
    · simp only [packGroup_extract_getElem v hk8 (by omega : 0 + k < 16), Nat.zero_add]
    · simp only [packGroup_extract_getElem v (by omega : k - 8 < 8) (by omega : 8 + (k - 8) < 16),
        Nat.add_sub_cancel' (Nat.le_of_not_lt hk8)]
  · rintro rfl
    refine ⟨group_ext fun k hk => ?_, group_ext fun k hk => ?_⟩
    · rw [packGroup_extract_getElem _ hk (by omega), extractIdx3_getElem _ _ _ _ _ _ _ (by omega), if_pos (by omega),
        Nat.zero_add]
    · rw [packGroup_extract_getElem _ hk (by omega), extractIdx3_getElem _ _ _ _ _ _ _ (by omega), if_neg (by omega),
        Nat.add_sub_cancel_left]

end Sys2Proof
end

section
/-! PROOFS. The family of spec/30_encoding.md, second part: which body a color block selects (R81, R91), the round trip
between decoder and encoder (R92, R93), and what is refused (R80, R241). -/

namespace Sys2Proof

open Machine Claim

/-! ### The color decoder (R81, R91) -/

/-- The color body by the four tests in their order (R81, R162). -/
theorem decodeColor_eq (b : Block) : decodeColor b =
    if diffBit b.b3 = false then .etc2I (individualFields b) (blockIdx2 b)
    else if ovf b.b0 then .etc2T (tFields b) (blockIdx2 b)
    else if ovf b.b1 then .etc2H (hFields b) (blockIdx2 b)
    else if ovf b.b2 then .etc2P (planarFields b)
    else .etc2D (differentialFields b) (blockIdx2 b) := by
  unfold decodeColor blockMode classifyMode
  split_ifs <;> rfl

/-! Which blocks select each body, and with what operands. -/

theorem decodeColor_eq_etc2I {b : Block} {f : IndividualFields} {idx : Idx2Table} :
    decodeColor b = .etc2I f idx ↔ diffBit b.b3 = false ∧ f = individualFields b ∧ idx = blockIdx2 b := by
  rw [decodeColor_eq, eq_comm (b := Instr.etc2I f idx)]
  split_ifs <;> simp_all

theorem decodeColor_eq_etc2T {b : Block} {f : TFields} {idx : Idx2Table} :
    decodeColor b = .etc2T f idx ↔
      (diffBit b.b3 = true ∧ ovf b.b0 = true) ∧ f = tFields b ∧ idx = blockIdx2 b := by
  rw [decodeColor_eq, eq_comm (b := Instr.etc2T f idx)]
  split_ifs <;> simp_all

theorem decodeColor_eq_etc2H {b : Block} {f : HFields} {idx : Idx2Table} :
    decodeColor b = .etc2H f idx ↔
      (diffBit b.b3 = true ∧ ovf b.b0 = false ∧ ovf b.b1 = true) ∧ f = hFields b ∧ idx = blockIdx2 b := by
  rw [decodeColor_eq, eq_comm (b := Instr.etc2H f idx)]
  split_ifs <;> simp_all

theorem decodeColor_eq_etc2P {b : Block} {f : PlanarFields} :
    decodeColor b = .etc2P f ↔
      (diffBit b.b3 = true ∧ ovf b.b0 = false ∧ ovf b.b1 = false ∧ ovf b.b2 = true) ∧ f = planarFields b := by
  rw [decodeColor_eq, eq_comm (b := Instr.etc2P f)]
  split_ifs <;> simp_all

theorem decodeColor_eq_etc2D {b : Block} {f : DifferentialFields} {idx : Idx2Table} :
    decodeColor b = .etc2D f idx ↔
      (diffBit b.b3 = true ∧ ovf b.b0 = false ∧ ovf b.b1 = false ∧ ovf b.b2 = false) ∧
        f = differentialFields b ∧ idx = blockIdx2 b := by
  rw [decodeColor_eq, eq_comm (b := Instr.etc2D f idx)]
  split_ifs <;> simp_all

/-- A color block decodes to a color body (R91). -/
theorem decodeColor_select (b : Block) : (decodeColor b).select = .color := by
  rw [decodeColor_eq]
  split_ifs <;> rfl

/-! ### The round trip of a block (R92, R93) -/

/-- The bytes of a block in formats I, D, T and H: the head of the format, then the 2-bit index area (R88). -/
theorem append_packIdx2_eq_toBytes {head : List Byte} {idx : Idx2Table} {b : Block} (h : head.length = 4) :
    head ++ packIdx2 idx = b.toBytes ↔ head = [b.b0, b.b1, b.b2, b.b3] ∧ idx = blockIdx2 b := by
  rw [show b.toBytes = [b.b0, b.b1, b.b2, b.b3] ++ [b.b4, b.b5, b.b6, b.b7] from rfl,
    List.append_eq_append_iff_of_size_eq_left h, packIdx2_eq_iff, blockIdx2]

/-- A color block decodes to a color body exactly when that body is well formed and encodes to the block: the encoder's
tables and the decoder's agree in both directions (R92, R93). -/
theorem decodeColor_eq_iff {b : Block} {i : Instr} (hsel : i.select = .color) :
    decodeColor b = i ↔ i.wf = true ∧ encode i = b.toBytes := by
  cases i with
  | etc2I f idx =>
    rw [decodeColor_eq_etc2I, encode, append_packIdx2_eq_toBytes rfl, encodeIndividual_eq_iff]
    simp [Instr.wf, and_assoc]
  | etc2T f idx =>
    rw [decodeColor_eq_etc2T, encode, append_packIdx2_eq_toBytes rfl, encodeT_eq_iff]
    simp [Instr.wf, and_assoc]
  | etc2H f idx =>
    rw [decodeColor_eq_etc2H, encode, append_packIdx2_eq_toBytes rfl, encodeH_eq_iff, Instr.wf]
    constructor
    · rintro ⟨⟨hdiff, h0, h1⟩, rfl, rfl⟩
      simp [hFields_wf, hdiff, h0, h1]
    · rintro ⟨hwf, ⟨⟨hdiff, h1⟩, rfl⟩, rfl⟩
      simp_all [hFields_wf]
  | etc2P f =>
    rw [decodeColor_eq_etc2P, encode, encodePlanar_eq_iff, Instr.wf]
    constructor
    · rintro ⟨⟨hdiff, h0, h1, h2⟩, rfl⟩
      simp [planarFields_wf, hdiff, h0, h1, h2]
    · rintro ⟨hwf, ⟨hdiff, h2⟩, rfl⟩
      simp_all [planarFields_wf]
  | etc2D f idx =>
    rw [decodeColor_eq_etc2D, encode, append_packIdx2_eq_toBytes rfl, encodeDifferential_eq_iff, Instr.wf]
    constructor
    · rintro ⟨⟨hdiff, h0, h1, h2⟩, rfl, rfl⟩
      simp [differentialFields_wf, hdiff, h0, h1, h2]
    · rintro ⟨hwf, ⟨hdiff, rfl⟩, rfl⟩
      simp_all [differentialFields_wf]
  | _ => cases hsel

/-- An alpha block decodes to the alpha decoder's operands that encode to it (R89, R92). -/
theorem decodeAlpha_eq_iff {a : Block} {f : AlphaFields} {idx : Idx3Table} :
    decodeAlpha a = .eacA8 f idx ↔ encode (.eacA8 f idx) = a.toBytes := by
  have hsplit : encodeAlpha f ++ packIdx3 idx = [a.b0, a.b1] ++ [a.b2, a.b3, a.b4, a.b5, a.b6, a.b7] ↔
      encodeAlpha f = [a.b0, a.b1] ∧ packIdx3 idx = [a.b2, a.b3, a.b4, a.b5, a.b6, a.b7] :=
    List.append_eq_append_iff_of_size_eq_left rfl
  rw [encodeAlpha_eq_iff, packIdx3_eq_iff] at hsplit
  rw [decodeAlpha, eq_comm, Instr.eacA8.injEq]
  exact hsplit.symm

/-! ### The decoder of a request (R80) -/

/-- Eight bytes are a block (R60). -/
theorem exists_toBytes_eq {bytes : List Byte} (h : bytes.length = 8) : ∃ b : Block, b.toBytes = bytes :=
  let [b0, b1, b2, b3, b4, b5, b6, b7] := bytes
  ⟨⟨b0, b1, b2, b3, b4, b5, b6, b7⟩, rfl⟩

/-- Bytes of the unit's length decode (R80, R92). -/
theorem decode_of_length {sel : Select} {bytes : List Byte} (h : bytes.length = sel.byteLength) :
    ∃ i, decode sel bytes = .ok i := by
  cases sel with
  | decrgb | color | alpha =>
    obtain ⟨b, rfl⟩ := exists_toBytes_eq h
    exact ⟨_, rfl⟩
  | decrgba =>
    let [a0, a1, a2, a3, a4, a5, a6, a7, b0, b1, b2, b3, b4, b5, b6, b7] := bytes
    exact ⟨_, rfl⟩
  | classify | idx2 =>
    obtain ⟨b0, b1, b2, b3, rfl⟩ := List.length_eq_four.mp h
    exact ⟨_, rfl⟩
  | idx3 =>
    let [a2, a3, a4, a5, a6, a7] := bytes
    exact ⟨_, rfl⟩

/-- All that the decoder can read: a color body from a color block, the alpha decoder's operands from an alpha block,
and in the other rows an instruction whose operands are the bytes themselves. -/
theorem decode_ok_cases {sel : Select} {bytes : List Byte} {i : Instr} (h : decode sel bytes = .ok i) :
    (∃ b : Block, sel = .color ∧ bytes = b.toBytes ∧ i = decodeColor b) ∨
    (∃ a : Block, sel = .alpha ∧ bytes = a.toBytes ∧ i = decodeAlpha a) ∨
    (i.wf = true ∧ i.select = sel ∧ encode i = bytes) := by
  cases sel with
  | color =>
    simp only [decode] at h
    split at h <;> cases h
    exact .inl ⟨_, rfl, rfl, rfl⟩
  | alpha =>
    simp only [decode] at h
    split at h <;> cases h
    exact .inr (.inl ⟨_, rfl, rfl, rfl⟩)
  | _ =>
    simp only [decode] at h
    split at h <;> cases h
    exact .inr (.inr ⟨rfl, rfl, rfl⟩)

/-- The decoder gives up in one way only (log 17). -/
theorem decode_error {sel : Select} {bytes : List Byte} {e : DecodeError} (h : decode sel bytes = .error e) :
    e = .wrongLength sel bytes.length := by
  cases sel <;> simp only [decode] at h <;> split at h <;> cases h <;> rfl

/-- An encoding has the length that its unit takes (R80). -/
theorem encode_length (i : Instr) : (encode i).length = i.select.byteLength := by
  cases i <;> rfl

/-- What encodes a well-formed instruction of a color body is read back (R92, R93). -/
theorem decode_encode_of_color {i : Instr} (hsel : i.select = .color) (hwf : i.wf = true) :
    decode .color (encode i) = .ok i := by
  obtain ⟨b, hb⟩ := exists_toBytes_eq ((encode_length i).trans (by rw [hsel]; rfl))
  have hi : decodeColor b = i := (decodeColor_eq_iff hsel).mpr ⟨hwf, hb.symm⟩
  rw [← hb, ← hi]
  rfl

/-- The bytes of an alpha block are read back (R89, R92). -/
theorem decode_encode_eacA8 (f : AlphaFields) (idx : Idx3Table) :
    decode .alpha (encode (.eacA8 f idx)) = .ok (.eacA8 f idx) := by
  obtain ⟨a, ha⟩ := exists_toBytes_eq (encode_length (.eacA8 f idx))
  rw [← ha, ← decodeAlpha_eq_iff.mpr ha.symm]
  rfl

/-! ### What is refused (R80, R241) -/

/-- A request of the right length is not refused (R80). -/
theorem serve_not_refused {r : Request} (s : State) (x : Refusal) (h : r.bytes.length = r.sel.byteLength) :
    serve r s ≠ .refused x := by
  obtain ⟨i, hi⟩ := decode_of_length h
  rw [serve_of_decode s hi, exec_eq]
  nofun

/-- A step of a walk is not refused: it fetches exactly one unit (R245). -/
theorem walkStep_not_refused (w : Walk) (s : State) (x : Refusal) : walkStep w s ≠ .refused x := by
  rcases walkStep_cases w s with ⟨-, he⟩ | ⟨-, i, -, he⟩
  · rw [he]
    nofun
  · rw [he]
    rcases writeBack_cases w (s.withCore (coreAfter i s.params s.core)) with ⟨m, -, hw⟩ | ⟨-, hw⟩ <;>
    · rw [hw]
      nofun

/-- The start of a call is refused only when a size does not fit (R241, log 11). -/
theorem startCall_refused {c : Call} {s : State} {x : Refusal} (h : startCall c s = .refused x) :
    x = .addressWidth (s.params.addrW.getD 0) (srcNeed c) (dstNeed c) ∧
      ¬ (fitsAddr s.params.addrW (srcNeed c) = true ∧ fitsAddr s.params.addrW (dstNeed c) = true) := by
  rcases startCall_cases c s with ⟨hfit, he⟩ | ⟨-, ⟨e, -, he⟩ | ⟨-, -, he⟩ | ⟨-, -, he⟩⟩
  · refine ⟨(Host.Outcome.refused.inj (he.symm.trans h)).symm, fun hfits => ?_⟩
    rw [hfits.1, hfits.2] at hfit
    cases hfit
  all_goals cases he.symm.trans h

namespace EncodingFamily

/-- Settles O1: a color or alpha block by what its format's encoder says of it; the other rows carry their bytes. -/
theorem decodeOfEncodeIsTheInstruction : Obligations.DecodeOfEncodeIsTheInstruction := by
  intro i hwf
  cases i with
  | etc2I | etc2T | etc2H | etc2P | etc2D => exact decode_encode_of_color rfl hwf
  | eacA8 f idx => exact decode_encode_eacA8 f idx
  | decrgb | decrgba | classify | idx2 | idx3 => rfl

/-- Settles O2, by what the decoder can read. -/
theorem encodeOfDecodeIsTheBytes : Obligations.EncodeOfDecodeIsTheBytes := by
  intro sel bytes i h
  rcases decode_ok_cases h with ⟨b, rfl, rfl, rfl⟩ | ⟨a, rfl, rfl, rfl⟩ | hraw
  · have hsel := decodeColor_select b
    obtain ⟨hwf, hbytes⟩ := (decodeColor_eq_iff hsel).mp rfl
    exact ⟨hwf, hsel, hbytes⟩
  · exact ⟨rfl, rfl, decodeAlpha_eq_iff.mp rfl⟩
  · exact hraw

/-- Settles O5: each clause is the test of its body, the sums read from the bytes. -/
theorem colorBlockSelectsOneBody : Obligations.ColorBlockSelectsOneBody := by
  intro b
  simp only [← diffBit_eq_true, ← diffBit_eq_false, ← ovf_eq_true, ← ovf_eq_false]
  exact ⟨fun hdiff => ⟨_, _, decodeColor_eq_etc2I.mpr ⟨hdiff, rfl, rfl⟩⟩,
    fun hdiff h0 => ⟨_, _, decodeColor_eq_etc2T.mpr ⟨⟨hdiff, h0⟩, rfl, rfl⟩⟩,
    fun hdiff h0 h1 => ⟨_, _, decodeColor_eq_etc2H.mpr ⟨⟨hdiff, h0, h1⟩, rfl, rfl⟩⟩,
    fun hdiff h0 h1 h2 => ⟨_, decodeColor_eq_etc2P.mpr ⟨⟨hdiff, h0, h1, h2⟩, rfl⟩⟩,
    fun hdiff h0 h1 h2 => ⟨_, _, decodeColor_eq_etc2D.mpr ⟨⟨hdiff, h0, h1, h2⟩, rfl, rfl⟩⟩⟩

/-- Settles O35, by what the step does: only the start of a call can be refused. -/
theorem onlyAnUnfitCallIsRefused : Obligations.OnlyAnUnfitCallIsRefused := by
  intro s x hrequests h
  rcases step_cases s with ⟨r, rest, hr, he⟩ | ⟨w, -, -, he⟩ | ⟨c, -, -, hc, he⟩ | ⟨-, -, -, he⟩
  · exact absurd (he.symm.trans h) (serve_not_refused _ x (hrequests r (by simp [hr])))
  · exact absurd (he.symm.trans h) (walkStep_not_refused w s x)
  · exact ⟨c, hc, startCall_refused (he.symm.trans h)⟩
  · cases he.symm.trans h

/-- Settles O3: bytes of the unit's length decode; of another length they cannot, since what decodes encodes back to
them, and the decoder has one error. -/
theorem onlyTheLengthIsRefused : Obligations.OnlyTheLengthIsRefused := by
  intro sel bytes
  refine ⟨decode_of_length, fun hlength => ?_⟩
  cases h : decode sel bytes with
  | error e => rw [decode_error h]
  | ok i =>
    obtain ⟨-, rfl, rfl⟩ := encodeOfDecodeIsTheBytes sel bytes i h
    exact absurd (encode_length i) hlength

/-- Settles O4: the overflow test is arithmetic on the byte, and the byte for two pairs of bits is `forceOvf`'s. -/
theorem overflowSetIsTheSixteenBytes : Obligations.OverflowSetIsTheSixteenBytes := by
  refine ⟨fun b => ?_, by decide, by decide, fun a c b => ?_⟩
  · have hb := b.isLt
    simp only [ovf_eq_true, sumOfByte, nat, List.mem_cons, List.not_mem_nil, or_false, ← BitVec.toNat_inj,
      BitVec.ofNat_eq_ofNat, BitVec.toNat_ofNat]
    omega
  · rw [← forceOvf_eq_iff_toNat, ← BitVec.toNat_inj, toNat_forceOvf, eq_comm]

/-- Settles O6, by running the decoder on the six words. -/
theorem wordsOfTheSpecDecode : Obligations.WordsOfTheSpecDecode := by
  unfold Obligations.WordsOfTheSpecDecode
  decide

end EncodingFamily

end Sys2Proof
end

section
/-! PROOFS. The family of spec/40_tables_and_helpers.md: the tables (R120 to R122), the bit-extension helpers (R124 to
R128) and the clamp (R129). -/

namespace Sys2Proof

open Machine Claim

/-! ### The tables (R120 to R122) -/

/-- A table index below its bound is itself as a bit vector's number. -/
theorem toNat_ofNat_of_lt {w n : Nat} (h : n < 2 ^ w) : (BitVec.ofNat w n).toNat = n :=
  (BitVec.toNat_ofNat n w).trans (Nat.mod_eq_of_lt h)

/-- Row 0 of `IMOD` does not depend on the parameters (R121). -/
theorem imod_zero (p : Params) (x : BitVec 2) : imod p 0 x = imodRow0[x.toNat]'(x.isLt) := rfl

/-- Rows 1 to 7 of `IMOD` are the rows of the parameter, counted from 0 there (R121). -/
theorem imodRow_succ (p : Params) (t : Fin 7) : imodRow p (BitVec.ofNat 3 (t.val + 1)) = p.imodRows[t] := by
  have htoNat : (BitVec.ofNat 3 (t.val + 1)).toNat = t.val + 1 :=
    toNat_ofNat_of_lt (Nat.succ_lt_succ t.isLt)
  have hne : BitVec.ofNat 3 (t.val + 1) ≠ 0 := fun h => Nat.succ_ne_zero t.val (htoNat.symm.trans (congrArg _ h))
  simp only [imodRow, if_neg hne, htoNat, Nat.add_sub_cancel, Fin.getElem_fin]

/-- `IMOD` at a row of the parameter (R121). -/
theorem imod_succ (p : Params) (t : Fin 7) (x : Fin 4) :
    imod p (BitVec.ofNat 3 (t.val + 1)) (BitVec.ofNat 2 x.val) = (p.imodRows[t])[x] := by
  have hx : (BitVec.ofNat 2 x.val).toNat = x.val := toNat_ofNat_of_lt x.isLt
  simp only [imod, imodRow_succ, hx, Fin.getElem_fin]

/-- `AMOD` at a row and a column (R122). -/
theorem amod_ofNat (p : Params) (t : Fin 16) (x : Fin 8) :
    amod p (BitVec.ofNat 4 t.val) (BitVec.ofNat 3 x.val) = (p.amodRows[t])[x] := by
  have ht : (BitVec.ofNat 4 t.val).toNat = t.val := toNat_ofNat_of_lt t.isLt
  have hx : (BitVec.ofNat 3 x.val).toNat = x.val := toNat_ofNat_of_lt x.isLt
  simp only [amod, ht, hx, Fin.getElem_fin]

/-- The eight distances (R120). -/
theorem dist_ofNat : ∀ n : Fin 8, nat (dist (BitVec.ofNat 3 n.val)) = magnitude n.val := by decide

/-! ### The bit-extension helpers (R124 to R128) -/

/-- The shape of every helper: the field is moved to the top of the byte and the room below it filled with the field's
top bits. The two parts share no bit, so the byte is their sum. -/
theorem toNat_shiftLeft_or_shiftRight {w m k : Nat} (x : BitVec w) (hbyte : w + m = 8) (hfill : k + m = w) :
    (x.setWidth 8 <<< m ||| x.setWidth 8 >>> k).toNat = 2 ^ m * x.toNat + x.toNat / 2 ^ k := by
  have hx : x.toNat < 2 ^ 8 := x.isLt.trans_le (Nat.pow_le_pow_right (by decide) (by omega))
  have htop : 2 ^ m * x.toNat < 2 ^ 8 := by
    rw [← hbyte, Nat.pow_add, Nat.mul_comm]
    exact Nat.mul_lt_mul_of_pos_right x.isLt (Nat.two_pow_pos m)
  have hlow : x.toNat / 2 ^ k < 2 ^ m := Nat.div_lt_of_lt_mul (by rw [← Nat.pow_add, hfill]; exact x.isLt)
  rw [Nat.two_pow_add_eq_or_of_lt hlow, BitVec.toNat_or, BitVec.toNat_shiftLeft, BitVec.toNat_ushiftRight,
    BitVec.toNat_setWidth, Nat.mod_eq_of_lt hx, Nat.shiftLeft_eq, Nat.mul_comm, Nat.mod_eq_of_lt htop,
    Nat.shiftRight_eq_div_pow]

@[simp] theorem toNat_extend4 (x : BitVec 4) : (extend4 x).toNat = 17 * x.toNat := by
  have h := toNat_shiftLeft_or_shiftRight (m := 4) (k := 0) x rfl rfl
  rw [BitVec.ushiftRight_zero] at h
  rw [extend4, h]
  omega

@[simp] theorem toNat_extend5 (x : BitVec 5) : (extend5 x).toNat = 8 * x.toNat + x.toNat / 4 :=
  toNat_shiftLeft_or_shiftRight x rfl rfl

@[simp] theorem toNat_extend6 (x : BitVec 6) : (extend6 x).toNat = 4 * x.toNat + x.toNat / 16 :=
  toNat_shiftLeft_or_shiftRight x rfl rfl

@[simp] theorem toNat_extend7 (x : BitVec 7) : (extend7 x).toNat = 2 * x.toNat + x.toNat / 64 :=
  toNat_shiftLeft_or_shiftRight x rfl rfl

/-- What makes a helper strictly monotonic: a positive multiple of the operand grows, and a quotient of it does not
fall (R128). -/
theorem extend_lt_extend {w a d : Nat} {f : BitVec w → Byte} (ha : 0 < a)
    (hf : ∀ x, (f x).toNat = a * x.toNat + x.toNat / d) (x y : BitVec w) (h : x < y) : f x < f y := by
  have hlt : x.toNat < y.toNat := h
  rw [BitVec.lt_def, hf, hf]
  exact Nat.add_lt_add_of_lt_of_le (Nat.mul_lt_mul_of_pos_left hlt ha) (Nat.div_le_div_right hlt.le)

/-! ### The clamp (R129) -/

theorem clamp_of_lt {v lo : Int} (hi : Int) (h : v < lo) : clamp v lo hi = lo := if_pos h

theorem clamp_of_gt {v lo hi : Int} (hle : lo ≤ hi) (h : hi < v) : clamp v lo hi = hi :=
  (if_neg (hle.trans_lt h).not_gt).trans (if_pos h)

theorem clamp_of_mem {v lo hi : Int} (hlo : lo ≤ v) (hhi : v ≤ hi) : clamp v lo hi = v :=
  (if_neg hlo.not_gt).trans (if_neg hhi.not_gt)

namespace TablesFamily

/-- Settles O7: the end values are computed, and every helper is a positive multiple of its operand plus a quotient. -/
theorem extendersMapTheirRangeMonotonically : Obligations.ExtendersMapTheirRangeMonotonically := by
  have hf4 (x : BitVec 4) : (extend4 x).toNat = 16 * x.toNat + x.toNat / 1 := by
    rw [toNat_extend4]
    omega
  exact ⟨⟨rfl, rfl, extend_lt_extend (by decide) hf4⟩, ⟨rfl, rfl, extend_lt_extend (by decide) toNat_extend5⟩,
    ⟨rfl, rfl, extend_lt_extend (by decide) toNat_extend6⟩, ⟨rfl, rfl, extend_lt_extend (by decide) toNat_extend7⟩⟩

/-- Settles O8, by the value of each helper as a natural number. -/
theorem extendersReplicateTheTopBits : Obligations.ExtendersReplicateTheTopBits := by
  refine ⟨fun x => ?_, fun x => ?_, fun x => ?_, fun x => ?_⟩
  · simp [nat, rep4]
  · simp [nat, rep5]
  · simp [nat, rep6]
  · simp [nat, rep7]

/-- Settles O9, by the three cases of the clamp. -/
theorem clampSaturatesToTheNearerBound : Obligations.ClampSaturatesToTheNearerBound :=
  fun _ _ hi hle => ⟨clamp_of_lt hi, clamp_of_gt hle, clamp_of_mem⟩

/-- Settles O10: row 0 is a constant of the model. -/
theorem intensityRowZeroIsTheSources : Obligations.IntensityRowZeroIsTheSources := by
  intro p
  simp only [imod_zero]
  decide

/-- Settles O54, table by table. -/
theorem tableLookupsReadTheirEntry : Obligations.TableLookupsReadTheirEntry :=
  fun p => ⟨imod_succ p, amod_ofNat p, dist_ofNat⟩

end TablesFamily

end Sys2Proof
end

section
/-! PROOFS. The family of spec/41_index_extractors.md: the two modifier-index extractors as arithmetic on their bytes
(R150, R152). -/

namespace Sys2Proof

open Machine Claim

/-! ### The 2-bit indices (R150) -/

/-- A bit of a byte as the statements write it (R7). -/
theorem toNat_getLsbD (b : Byte) (n : Nat) : (b.getLsbD n).toNat = bit b n :=
  Nat.toNat_testBit b.toNat n

/-- The high bit of an index counts two (R150). -/
theorem toNat_index2 : ∀ msb lsb, (index2 msb lsb).toNat = msb.toNat * 2 + lsb.toNat := by decide

/-- Entry `k` of `IDX2` as a number (R150). -/
theorem toNat_extractIdx2_getElem (b4 b5 b6 b7 : Byte) (k : Nat) (h : k < 16) :
    ((extractIdx2 b4 b5 b6 b7)[k]).toNat =
      (if k < 8 then bit b5 k else bit b4 (k - 8)) * 2 + (if k < 8 then bit b7 k else bit b6 (k - 8)) := by
  rw [extractIdx2_getElem _ _ _ _ k h]
  split_ifs <;> simp only [toNat_index2, toNat_getLsbD]

/-! ### The 3-bit indices (R152) -/

/-- Index `m` of a group is the octal digit `7 - m` of the group's number: the first index is the top digit (R152). -/
theorem toNat_group_extractLsb' (a b c : Byte) {m : Nat} (h : m < 8) :
    ((a ++ b ++ c : BitVec 24).extractLsb' (21 - 3 * m) 3).toNat =
      (a.toNat * 65536 + b.toNat * 256 + c.toNat) / 8 ^ (7 - m) % 8 := by
  have hgroup : (a ++ b ++ c : BitVec 24).toNat = a.toNat * 65536 + b.toNat * 256 + c.toNat := by
    simp only [toNat_append]
    omega
  have hpos : 21 - 3 * m = 3 * (7 - m) := by omega
  rw [BitVec.extractLsb'_toNat, hgroup, Nat.shiftRight_eq_div_pow, hpos, Nat.pow_mul]

/-- Entry `k` of `IDX3` as a number (R152). -/
theorem toNat_extractIdx3_getElem (a2 a3 a4 a5 a6 a7 : Byte) (k : Nat) (h : k < 16) :
    ((extractIdx3 a2 a3 a4 a5 a6 a7)[k]).toNat =
      if k < 8 then (a2.toNat * 65536 + a3.toNat * 256 + a4.toNat) / 8 ^ (7 - k) % 8
      else (a5.toNat * 65536 + a6.toNat * 256 + a7.toNat) / 8 ^ (15 - k) % 8 := by
  rw [extractIdx3_getElem _ _ _ _ _ _ k h]
  split_ifs with hlow
  · exact toNat_group_extractLsb' a2 a3 a4 hlow
  · have hdigit : 7 - (k - 8) = 15 - k := by omega
    rw [toNat_group_extractLsb' a5 a6 a7 (by omega), hdigit]

namespace IndexFamily

/-- Settles O13: the instruction writes the extracted table, whose entries are `toNat_extractIdx2_getElem`. -/
theorem idx2PairsTheBitsOfEachPixel : Obligations.Idx2PairsTheBitsOfEachPixel :=
  fun b4 b5 b6 b7 s => ⟨_, exec_eq _ s, outsideCoreUnchanged_withCore s _, rfl,
    fun k => toNat_extractIdx2_getElem b4 b5 b6 b7 k.val k.isLt⟩

/-- Settles O14: the instruction writes the extracted table, whose entries are `toNat_extractIdx3_getElem`. -/
theorem idx3CutsTheGroupsFromTheTop : Obligations.Idx3CutsTheGroupsFromTheTop :=
  fun a2 a3 a4 a5 a6 a7 s => ⟨_, exec_eq _ s, outsideCoreUnchanged_withCore s _, rfl,
    fun k => toNat_extractIdx3_getElem a2 a3 a4 a5 a6 a7 k.val k.isLt⟩

end IndexFamily

end Sys2Proof
end

section
/-! PROOFS. The family of spec/42_mode_classifier.md: the mode as a chain of tests on the bytes' numbers (R160 to R162),
and what `CLASSIFY` writes. -/

namespace Sys2Proof

open Machine Claim

/-- The classifier's chain, test by test in its order: the diff bit, then the sums of red, green and blue (R162). -/
theorem classifyMode_eq (b0 b1 b2 b3 : Byte) : classifyMode b0 b1 b2 b3 =
    if bit b3 1 = 0 then .individual
    else if sumOfByte b0 < 0 ∨ 31 < sumOfByte b0 then .t
    else if sumOfByte b1 < 0 ∨ 31 < sumOfByte b1 then .h
    else if sumOfByte b2 < 0 ∨ 31 < sumOfByte b2 then .planar
    else .differential :=
  if_congr diffBit_eq_false rfl <| if_congr ovf_eq_true rfl <| if_congr ovf_eq_true rfl <| if_congr ovf_eq_true rfl rfl

namespace ClassifierFamily

/-- Settles O12: the instruction writes the mode of `classifyMode_eq` and the sums of `sumsOf_eq_sumOfByte`. -/
theorem classifyWritesTheModeOfTheChain : Obligations.ClassifyWritesTheModeOfTheChain :=
  fun b0 b1 b2 b3 s => ⟨_, exec_eq _ s, outsideCoreUnchanged_withCore s _, rfl, sumsOf_eq_sumOfByte b0 b1 b2,
    classifyMode_eq b0 b1 b2 b3⟩

end ClassifierFamily

end Sys2Proof
end

section
/-! PROOFS. The family of spec/43_individual_differential.md: the base colors of the two bodies (R170, R171), the pixel
that both share (R174 to R176), and the source's scenario of the all-zero block (R172). -/

namespace Sys2Proof

open Machine Claim

/-! ### The base colors (R170, R171) -/

theorem colorIs_color4 (r g b : BitVec 4) : ColorIs (color4 r g b) (rep4 r) (rep4 g) (rep4 b) := by
  simp [ColorIs, color4, rep4, nat]

theorem colorIs_color5 (r g b : BitVec 5) :
    ColorIs (color5 r g b) (rep5 (nat r.toNat)) (rep5 (nat g.toNat)) (rep5 (nat b.toNat)) := by
  simp [ColorIs, color5, rep5, nat]

/-- A sum that does not overflow is base plus delta over the integers: cutting it to five bits loses nothing (R171). -/
theorem nat_sum5 {b : BitVec 5} {d : BitVec 3} (h : overflows (deltaSum b d) = false) :
    nat (sum5 b d).toNat = nat b.toNat + delta d :=
  sum5_toNat h

/-- Fields make a Differential block when none of their three sums overflows (R84, R94). -/
theorem DifferentialFields.wf_iff {f : DifferentialFields} : f.wf = true ↔
    overflows (deltaSum f.bR f.dR) = false ∧ overflows (deltaSum f.bG f.dG) = false ∧
      overflows (deltaSum f.bB f.dB) = false := by
  simp [DifferentialFields.wf, and_assoc]

/-- Base 2 of a Differential block (R171). -/
theorem colorIs_differential_base2 {f : DifferentialFields} (h : f.wf = true) :
    ColorIs (color5 (sum5 f.bR f.dR) (sum5 f.bG f.dG) (sum5 f.bB f.dB))
      (rep5 (nat f.bR.toNat + delta f.dR)) (rep5 (nat f.bG.toNat + delta f.dG))
      (rep5 (nat f.bB.toNat + delta f.dB)) := by
  obtain ⟨hr, hg, hb⟩ := DifferentialFields.wf_iff.mp h
  rw [← nat_sum5 hr, ← nat_sum5 hg, ← nat_sum5 hb]
  exact colorIs_color5 _ _ _

/-! ### The pixel that both bodies share (R174 to R176) -/

/-- A shifted color as an opaque pixel: the amount added to each channel, each clamped on its own (R129, R176). -/
theorem pixelIs_shift {c : Color} {r g b : Int} (h : ColorIs c r g b) (m : Int) :
    PixelIs ((c.shift m).withAlpha 255) (sat (r + m)) (sat (g + m)) (sat (b + m)) 255 := by
  obtain ⟨rfl, rfl, rfl⟩ := h
  exact ⟨clampByte_toNat _, clampByte_toNat _, clampByte_toNat _, rfl⟩

namespace Machine

/-- The base color of a pixel is one of the two, chosen by its subblock and the legacy parameter (R176). -/
theorem colorIs_subblockBase {p : Params} {flip : BitVec 1} {c : Core} {r1 g1 b1 r2 g2 b2 : Int}
    (h1 : ColorIs c.base1 r1 g1 b1) (h2 : ColorIs c.base2 r2 g2 b2) (i j : Fin 4) :
    let useBase2 : Bool := second flip i j && !(p.legacyNonflipBase1 && decide (flip = 0))
    ColorIs (subblockBase p flip c i j) (if useBase2 then r2 else r1) (if useBase2 then g2 else g1)
      (if useBase2 then b2 else b1) := by
  intro useBase2
  have hbase : subblockBase p flip c i j = if useBase2 then c.base2 else c.base1 := rfl
  rw [hbase]
  cases useBase2 with
  | false => exact h1
  | true => exact h2

/-- The rendering gives every pixel its subblock's base color and modifier (R175, R176). -/
theorem subblockPixel_at_subblockRender {p : Params} {tbl1 tbl2 : BitVec 3} {flip : BitVec 1} {c : Core}
    {r1 g1 b1 r2 g2 b2 : Int} (h1 : ColorIs c.base1 r1 g1 b1) (h2 : ColorIs c.base2 r2 g2 b2) (i j : Fin 4) :
    SubblockPixel p flip tbl1 tbl2 c.idx2 r1 g1 b1 r2 g2 b2 i j
      (at_ (subblockRender p tbl1 tbl2 flip c).px i j) := by
  obtain ⟨hrow, hcolumn⟩ := grid_coordinates i.val j.isLt
  have hpixel : at_ (subblockRender p tbl1 tbl2 flip c).px i j =
      ((subblockBase p flip c i j).shift
        (imod p (subblockTable tbl1 tbl2 flip i j) (idxAt c.idx2 i j))).withAlpha 255 := by
    rw [at_, subblockRender_eq, ofFn_at, subblockPixel, hrow, hcolumn]
    rfl
  rw [hpixel]
  exact pixelIs_shift (colorIs_subblockBase h1 h2 i j) _

/-- When the subblocks agree in base color and table, neither the flip bit nor the legacy parameter matters (R176). -/
theorem subblockPixel_of_equal_subblocks (p : Params) (tbl : BitVec 3) (flip : BitVec 1) {c : Core}
    (h : c.base2 = c.base1) (k : Fin 16) :
    subblockPixel p tbl tbl flip c k = (c.base1.shift (imod p tbl c.idx2[k])).withAlpha 255 := by
  simp only [subblockPixel, subblockBase, subblockTable, h, ite_self]

/-! ### The all-zero block (R172) -/

/-- The all-zero block has the diff bit 0: it is an Individual block with every field and every index 0 (R81, R83). -/
theorem decodeColor_zero : decodeColor ⟨0, 0, 0, 0, 0, 0, 0, 0⟩ =
    .etc2I ⟨0, 0, 0, 0, 0, 0, 0, 0, 0⟩ (Vector.replicate 16 0) := by decide

/-- An Individual block with every field and every index 0 is black plus the source's entry `IMOD[0][0]`, which no
parameter changes (R121, R176). -/
theorem etc2I_zero_px (p : Params) (c : Core) (k : Fin 16) :
    (coreAfter (.etc2I ⟨0, 0, 0, 0, 0, 0, 0, 0, 0⟩ (Vector.replicate 16 0)) p c).px[k] = ⟨2, 2, 2, 255⟩ := by
  rw [coreAfter, individualBody, subblockRender_eq, Fin.getElem_fin, Vector.getElem_ofFn,
    subblockPixel_of_equal_subblocks _ _ _ rfl]
  have hindex : (Vector.replicate 16 (0 : BitVec 2))[k] = 0 := Vector.getElem_replicate k.isLt
  calc ((color4 0 0 0).shift (imod p 0 (Vector.replicate 16 (0 : BitVec 2))[k])).withAlpha 255
      = ((color4 0 0 0).shift 2).withAlpha 255 := by rw [hindex, imod_zero]; rfl
    _ = ⟨2, 2, 2, 255⟩ := by decide

end Machine

namespace SubblockFamily

/-- Settles O15: the base colors are replicated 4-bit fields, and the rendering is shared with the Differential body. -/
theorem individualBodyRendersItsSubblocks : Obligations.IndividualBodyRendersItsSubblocks := by
  intro f idx s
  have hbase1 := colorIs_color4 f.c1R f.c1G f.c1B
  have hbase2 := colorIs_color4 f.c2R f.c2G f.c2B
  exact ⟨_, exec_eq _ s, outsideCoreUnchanged_withCore s _, rfl, hbase1, hbase2,
    subblockPixel_at_subblockRender hbase1 hbase2⟩

/-- Settles O16: the format keeps every sum in five bits, and the rendering is shared with the Individual body. -/
theorem differentialBodyRendersItsSubblocks : Obligations.DifferentialBodyRendersItsSubblocks := by
  intro f idx s hwf
  have hbase1 := colorIs_color5 f.bR f.bG f.bB
  have hbase2 := colorIs_differential_base2 hwf
  exact ⟨_, exec_eq _ s, outsideCoreUnchanged_withCore s _, rfl, hbase1, hbase2,
    subblockPixel_at_subblockRender hbase1 hbase2⟩

/-- Settles O28: the block selects the Individual body, which reads nothing but row 0 of `IMOD`. -/
theorem allZeroBlockIsTwoTwoTwo : Obligations.AllZeroBlockIsTwoTwoTwo := by
  intro s
  refine ⟨_, exec_eq _ s, fun k => ?_⟩
  simp only [State.withCore_core]
  rw [coreAfter_decrgb, decodeColor_zero]
  exact etc2I_zero_px s.params s.core k

end SubblockFamily

end Sys2Proof
end

section
/-! PROOFS. The family of spec/44_t_h_modes.md: the distance of the two bodies (R191, R197), the ordering bit as a
comparison of the fields (R197), and the pixel that an index names among four paint colors (R192, R198). -/

namespace Sys2Proof

open Machine Claim

/-! ### The distance (R120) -/

/-- The entry of `DIST` at a distance index with the number `k` (R120). -/
theorem nat_dist {n : BitVec 3} {k : Nat} (h : n.toNat = k) : nat (dist n) = magnitude k := by
  subst h
  simpa only [BitVec.ofNat_toNat, BitVec.setWidth_eq] using dist_ofNat ⟨n.toNat, n.isLt⟩

/-! ### The ordering bit (R197) -/

/-- The packed base color as the statements write it (R197). -/
theorem nat_packColor_color4 (r g b : BitVec 4) : nat (packColor (color4 r g b)) = packed r g b := by
  simp [nat, packColor, packed, color4, rep4]

/-- The ordering bit that the body writes is the one of the block's fields (R197). -/
theorem toNat_orderBit (f : HFields) :
    (orderBit (color4 f.c1R f.c1G f.c1B) (color4 f.c2R f.c2G f.c2B)).toNat = hOrd f := by
  rw [orderBit, hOrd, apply_ite BitVec.toNat, ← nat_packColor_color4, ← nat_packColor_color4]
  exact if_congr Int.ofNat_le.symm rfl rfl

/-- The H distance index as a number (R197). -/
theorem toNat_hIndex (f : HFields) :
    (f.da ++ f.db ++ orderBit (color4 f.c1R f.c1G f.c1B) (color4 f.c2R f.c2G f.c2B)).toNat =
      f.da.toNat * 4 + f.db.toNat * 2 + hOrd f := by
  rw [toNat_append, toNat_append, toNat_orderBit]
  omega

/-- Two numbers of two digits compare by their high digits, then by their low ones. -/
theorem twoDigits_le_iff {m x y x' y' : Nat} (hy : y < m) (hy' : y' < m) :
    x * m + y ≤ x' * m + y' ↔ x < x' ∨ x = x' ∧ y ≤ y' := by
  rcases lt_trichotomy x x' with hlt | rfl | hgt
  · have hstep : x * m + m ≤ x' * m := Nat.succ_mul x m ▸ Nat.mul_le_mul_right m hlt
    omega
  · omega
  · have hstep : x' * m + m ≤ x * m := Nat.succ_mul x' m ▸ Nat.mul_le_mul_right m hgt
    omega

/-- The packed color compares as the 12-bit number of the fields: the one has the digits `17r`, `17g`, `17b` to the base
256, the other `r`, `g`, `b` to the base 16, and a factor of 17 does not change how digits compare (R197). -/
theorem packColor_color4_le_iff (r g b r' g' b' : BitVec 4) :
    packColor (color4 r g b) ≤ packColor (color4 r' g' b') ↔ (r ++ g ++ b).toNat ≤ (r' ++ g' ++ b').toNat := by
  have hpack (r g b : BitVec 4) :
      packColor (color4 r g b) = (17 * r.toNat * 256 + 17 * g.toNat) * 256 + 17 * b.toNat := by
    simp only [packColor, color4, toNat_extend4]
    omega
  have hdigit (x : BitVec 4) : 17 * x.toNat < 256 := by omega
  rw [hpack, hpack, twoDigits_le_iff (hdigit b) (hdigit b'), toNat_append, toNat_append, toNat_append, toNat_append,
    twoDigits_le_iff b.isLt b'.isLt]
  omega

/-! ### The pixel that an index names (R192, R198) -/

/-- A 2-bit index names one of four paint colors (R150). -/
theorem index2_cases : ∀ x : BitVec 2, x = 0 ∨ x = 1 ∨ x = 2 ∨ x = 3 := by decide

/-- A color as an opaque pixel. -/
theorem pixelIs_withAlpha {c : Color} {r g b : Int} (h : ColorIs c r g b) : PixelIs (c.withAlpha 255) r g b 255 := by
  obtain ⟨hr, hg, hb⟩ := h
  exact ⟨hr, hg, hb, rfl⟩

/-- A color shifted down as an opaque pixel (R129, R192, R198). -/
theorem pixelIs_shift_neg {c : Color} {r g b : Int} (h : ColorIs c r g b) (d : Int) :
    PixelIs ((c.shift (-d)).withAlpha 255) (sat (r - d)) (sat (g - d)) (sat (b - d)) 255 :=
  pixelIs_shift h (-d)

namespace Machine

/-- If every index names a paint color with the stated channels, so does the index of every pixel (R192, R198). -/
theorem pixelIs_at_paintRender {c : Core} {r g b : BitVec 2 → Int}
    (h : ∀ x : BitVec 2, PixelIs ((c.paint[x.toNat]'x.isLt).withAlpha 255) (r x) (g x) (b x) 255) (i j : Fin 4) :
    PixelIs (at_ (paintRender c).px i j) (r (idxAt c.idx2 i j)) (g (idxAt c.idx2 i j)) (b (idxAt c.idx2 i j)) 255 := by
  rw [at_, paintRender_eq, ofFn_at]
  exact h _

/-- The T paint colors, index by index (R192). -/
theorem pixelIs_tPaint {c : Core} {r1 g1 b1 r2 g2 b2 : Int} (h1 : ColorIs c.base1 r1 g1 b1)
    (h2 : ColorIs c.base2 r2 g2 b2) (x : BitVec 2) :
    PixelIs (((tPaint c).paint[x.toNat]'x.isLt).withAlpha 255) (tChannel r1 r2 (nat c.d) x)
      (tChannel g1 g2 (nat c.d) x) (tChannel b1 b2 (nat c.d) x) 255 := by
  obtain rfl | rfl | rfl | rfl := index2_cases x
  · exact pixelIs_withAlpha h1
  · exact pixelIs_shift h2 c.d
  · exact pixelIs_withAlpha h2
  · exact pixelIs_shift_neg h2 c.d

/-- The H paint colors, index by index (R198). -/
theorem pixelIs_hPaint {c : Core} {r1 g1 b1 r2 g2 b2 : Int} (h1 : ColorIs c.base1 r1 g1 b1)
    (h2 : ColorIs c.base2 r2 g2 b2) (x : BitVec 2) :
    PixelIs (((hPaint c).paint[x.toNat]'x.isLt).withAlpha 255) (hChannel r1 r2 (nat c.d) x)
      (hChannel g1 g2 (nat c.d) x) (hChannel b1 b2 (nat c.d) x) 255 := by
  obtain rfl | rfl | rfl | rfl := index2_cases x
  · exact pixelIs_shift h1 c.d
  · exact pixelIs_shift_neg h1 c.d
  · exact pixelIs_shift h2 c.d
  · exact pixelIs_shift_neg h2 c.d

end Machine

namespace PaintFamily

/-- Settles O17: the distance index selects the magnitude, and `pixelIs_tPaint` gives the color of each index. -/
theorem tBodyPaintsByIndex : Obligations.TBodyPaintsByIndex := by
  intro f idx s
  have hbase1 := colorIs_color4 f.c1R f.c1G f.c1B
  have hbase2 := colorIs_color4 f.c2R f.c2G f.c2B
  have hdi : (f.da ++ f.db).toNat = f.da.toNat * 2 + f.db.toNat := toNat_append f.da f.db
  have hd := nat_dist hdi
  refine ⟨_, exec_eq _ s, outsideCoreUnchanged_withCore s _, rfl, hbase1, hbase2, hdi, hd, fun i j => ?_⟩
  rw [← hd]
  exact pixelIs_at_paintRender (pixelIs_tPaint hbase1 hbase2) i j

/-- Settles O18: the ordering bit is that of the fields, it completes the distance index that selects the magnitude, and
`pixelIs_hPaint` gives the color of each index. -/
theorem hBodyPaintsByIndexAndOrder : Obligations.HBodyPaintsByIndexAndOrder := by
  intro f idx s
  have hbase1 := colorIs_color4 f.c1R f.c1G f.c1B
  have hbase2 := colorIs_color4 f.c2R f.c2G f.c2B
  have hdi := toNat_hIndex f
  have hd := nat_dist hdi
  refine ⟨_, exec_eq _ s, outsideCoreUnchanged_withCore s _, rfl, hbase1, hbase2, toNat_orderBit f, hdi, hd,
    fun i j => ?_⟩
  rw [← hd]
  exact pixelIs_at_paintRender (pixelIs_hPaint hbase1 hbase2) i j

/-- Settles O19: the two comparisons are equivalent by `packColor_color4_le_iff`. -/
theorem orderBitComparesTheFields : Obligations.OrderBitComparesTheFields :=
  fun r1 g1 b1 r2 g2 b2 => if_congr (packColor_color4_le_iff r2 g2 b2 r1 g1 b1) rfl rfl

end PaintFamily

end Sys2Proof
end

section
/-! PROOFS. The family of spec/45_planar.md: the corner colors (R211), one channel of a pixel as a floor interpolation and
in the format's form (R212), and where the gradient vanishes (R213). -/

namespace Sys2Proof

open Machine Claim

/-! ### The corner colors (R211) -/

theorem colorIs_color676 (r : BitVec 6) (g : BitVec 7) (b : BitVec 6) :
    ColorIs (color676 r g b) (rep6 r) (rep7 g) (rep6 b) := by
  simp [ColorIs, color676, rep6, rep7, nat]

namespace Machine

/-! ### One channel (R212) -/

/-- A Planar channel of corners with the stated values (R212). -/
theorem nat_planarChannel {o h v : Byte} {x y z : Int} (ho : nat o.toNat = x) (hh : nat h.toNat = y)
    (hv : nat v.toNat = z) (i j : Fin 4) : nat (planarChannel o h v i.val j.val).toNat = planar x y z i j := by
  subst ho hh hv
  exact planarChannel_toNat o h v i.val j.val

/-- The interpolation in the format's form: a multiple of four passes through the floor of a quarter (R212). -/
theorem planar_eq_one_shift (o h v : Int) (i j : Fin 4) :
    planar o h v i j = sat ((nat i.val * (h - o) + nat j.val * (v - o) + 4 * o + 2) / 4) := by
  have hsum : nat i.val * (h - o) + nat j.val * (v - o) + 4 * o + 2 =
      (nat i.val * (h - o) + nat j.val * (v - o) + 2) + 4 * o := add_right_comm _ _ _
  rw [planar, hsum, Int.add_mul_ediv_left _ _ (by decide), add_comm o]

/-- Where the gradient vanishes a channel is the origin's: the rounding bias alone is less than a quarter (R213). -/
theorem planarChannel_of_gradient_zero {o h v : Byte} {i j : Nat}
    (hgradient : (i : Int) * (channel h - channel o) + (j : Int) * (channel v - channel o) = 0) :
    planarChannel o h v i j = o := by
  have hvalue := planarChannel_toNat o h v i j
  rw [hgradient] at hvalue
  have hbyte := o.isLt
  apply BitVec.eq_of_toNat_eq
  unfold channel at hvalue
  omega

/-- The pixel at column 0, row 0 does not depend on the other corners (R213 (c)). -/
theorem planarChannel_zero_zero (o h v : Byte) : planarChannel o h v 0 0 = o :=
  planarChannel_of_gradient_zero (by simp)

/-- Three equal corners have no gradient (R213 (d)). -/
theorem planarChannel_flat (o : Byte) (i j : Nat) : planarChannel o o o i j = o :=
  planarChannel_of_gradient_zero (by simp)

/-! ### The pixel at a column and a row (R212) -/

/-- The rendering interpolates each channel on its own, at the pixel's column and row, and is opaque (R212). -/
theorem at_planarRender (c : Core) (i j : Fin 4) : at_ (planarRender c).px i j =
    { r := planarChannel c.cornerO.r c.cornerH.r c.cornerV.r i.val j.val
      g := planarChannel c.cornerO.g c.cornerH.g c.cornerV.g i.val j.val
      b := planarChannel c.cornerO.b c.cornerH.b c.cornerV.b i.val j.val
      a := 255 } := by
  obtain ⟨hrow, hcolumn⟩ := grid_coordinates i.val j.isLt
  rw [at_, planarRender_eq, ofFn_at, planarPixel, hrow, hcolumn]

/-- The channel values of a rendered pixel, from those of the corners (R212). -/
theorem pixelIs_at_planarRender {c : Core} {rO gO bO rH gH bH rV gV bV : Int} (hO : ColorIs c.cornerO rO gO bO)
    (hH : ColorIs c.cornerH rH gH bH) (hV : ColorIs c.cornerV rV gV bV) (i j : Fin 4) :
    PixelIs (at_ (planarRender c).px i j) (planar rO rH rV i j) (planar gO gH gV i j) (planar bO bH bV i j) 255 := by
  obtain ⟨hrO, hgO, hbO⟩ := hO
  obtain ⟨hrH, hgH, hbH⟩ := hH
  obtain ⟨hrV, hgV, hbV⟩ := hV
  rw [at_planarRender]
  exact ⟨nat_planarChannel hrO hrH hrV i j, nat_planarChannel hgO hgH hgV i j, nat_planarChannel hbO hbH hbV i j, rfl⟩

/-- Pixel `(0, 0)` is the corner `O` (R213 (c)). -/
theorem at_planarRender_zero_zero (c : Core) : at_ (planarRender c).px 0 0 = c.cornerO.withAlpha 255 := by
  simp [at_planarRender, planarChannel_zero_zero, Color.withAlpha]

/-- With three equal corners every pixel is the corner `O` (R213 (d)). -/
theorem at_planarRender_flat {c : Core} (hH : c.cornerH = c.cornerO) (hV : c.cornerV = c.cornerO) (i j : Fin 4) :
    at_ (planarRender c).px i j = c.cornerO.withAlpha 255 := by
  simp only [at_planarRender, hH, hV, planarChannel_flat, Color.withAlpha]

end Machine

namespace PlanarFamily

/-- Settles O20: the corners are replicated fields, and `pixelIs_at_planarRender` gives the pixels between them. -/
theorem planarBodyInterpolatesItsCorners : Obligations.PlanarBodyInterpolatesItsCorners := by
  intro f s
  have hO := colorIs_color676 f.oR f.oG f.oB
  have hH := colorIs_color676 f.hR f.hG f.hB
  have hV := colorIs_color676 f.vR f.vG f.vB
  exact ⟨_, exec_eq _ s, outsideCoreUnchanged_withCore s _, rfl, hO, hH, hV,
    pixelIs_at_planarRender (c := planarCorners f s.core) hO hH hV⟩

/-- Settles O21: the model's channel is `planar` of its corners, whose two forms agree by `planar_eq_one_shift`. -/
theorem planarChannelIsTheFormatsFormula : Obligations.PlanarChannelIsTheFormatsFormula :=
  fun _ _ _ i j => (nat_planarChannel rfl rfl rfl i j).trans (planar_eq_one_shift _ _ _ i j)

/-- Settles O22: pixel `(0, 0)` is the corner `O`, and equal fields make equal corners, where every pixel is `O`. -/
theorem planarOriginAndFlatBlock : Obligations.PlanarOriginAndFlatBlock := by
  intro f s
  have horigin : at_ (planarBody f s.core).px 0 0 = (color676 f.oR f.oG f.oB).withAlpha 255 :=
    at_planarRender_zero_zero (planarCorners f s.core)
  refine ⟨_, exec_eq _ s, ?_, fun hhR hvR hhG hvG hhB hvB i j => ?_⟩
  · exact horigin ▸ pixelIs_withAlpha (colorIs_color676 f.oR f.oG f.oB)
  · have hH : color676 f.hR f.hG f.hB = color676 f.oR f.oG f.oB := by rw [hhR, hhG, hhB]
    have hV : color676 f.vR f.vG f.vB = color676 f.oR f.oG f.oB := by rw [hvR, hvG, hvB]
    exact (at_planarRender_flat (c := planarCorners f s.core) hH hV i j).trans horigin.symm

end PlanarFamily

end Sys2Proof
end

section
/-! PROOFS. The family of spec/46_eac_alpha.md: the value of one alpha (R222), what the decoder leaves in each pixel
(R222), and the multiplier 0 (R223). -/

namespace Sys2Proof

open Machine Claim

/-- The clamp keeps a channel (R129). -/
theorem clampByte_channel (b : Byte) : clampByte (channel b) = b := by
  have hvalue := clampByte_toNat (channel b)
  have hbyte := b.isLt
  apply BitVec.eq_of_toNat_eq
  unfold channel at hvalue ⊢
  omega

namespace Machine

/-! ### The alpha of one pixel -/

/-- The signed product is added to the base and the sum is clamped (R222). -/
theorem nat_alphaValue (p : Params) (f : AlphaFields) (x : BitVec 3) :
    nat (alphaValue p f x).toNat = sat (nat f.base.toNat + amod p f.atbl x * nat f.mult.toNat) :=
  clampByte_toNat _

/-- With multiplier 0 the product vanishes, and the clamp keeps the base (R223 (a)). -/
theorem alphaValue_of_mult_zero (p : Params) {f : AlphaFields} (h : f.mult = 0) (x : BitVec 3) :
    alphaValue p f x = f.base := by
  have hproduct : amod p f.atbl x * (f.mult.toNat : Int) = 0 := by simp [h]
  rw [alphaValue, hproduct, add_zero, clampByte_channel]

/-! ### The pixel at a column and a row -/

/-- The decoder replaces the alpha of a pixel by the value of its index, and keeps the colors (R222). -/
theorem at_alphaBody (p : Params) (f : AlphaFields) (idx : Idx3Table) (c : Core) (i j : Fin 4) :
    at_ (alphaBody p f idx c).px i j = { at_ c.px i j with a := alphaValue p f (idxAt idx i j) } := by
  rw [at_, alphaBody, alphaRender_eq, ofFn_at]
  rfl

end Machine

namespace AlphaFamily

/-- Settles O23: by `at_alphaBody` a pixel keeps its colors and gets its index's alpha, as `nat_alphaValue` says. -/
theorem alphaDecoderReplacesAlphaOnly : Obligations.AlphaDecoderReplacesAlphaOnly := by
  intro f idx s
  refine ⟨_, exec_eq _ s, outsideCoreUnchanged_withCore s _, rfl, fun i j => ?_⟩
  rw [State.withCore_core, coreAfter, at_alphaBody]
  exact ⟨rfl, rfl, rfl, nat_alphaValue s.params f (idxAt idx i j)⟩

/-- Settles O24: every alpha is the value of its index, which is the base by `alphaValue_of_mult_zero`. -/
theorem multiplierZeroGivesBaseEverywhere : Obligations.MultiplierZeroGivesBaseEverywhere := by
  intro f idx s hmult
  refine ⟨_, exec_eq _ s, fun i j => ?_⟩
  calc (at_ (alphaBody s.params f idx s.core).px i j).a
      = alphaValue s.params f (idxAt idx i j) := congrArg Pixel.a (at_alphaBody s.params f idx s.core i j)
    _ = f.base := alphaValue_of_mult_zero s.params hmult _

end AlphaFamily

end Sys2Proof
end

section
/-! PROOFS. The family of spec/48_walker_boundary.md: what the start of a call answers (R241, R242, R247, R264), the run
of a call to its return (R244, R248), the turn of the cores in the walk (R250), and that no run shows the cores (R250,
R270, R283). With it, from spec/60_exceptions.md, the errors of a call and that no step faults (R261 to R265), and from
spec/70_reset_and_hazards.md the idle step (R273). -/

namespace Sys2Proof

open Machine Claim

namespace Machine

/-! ### The derived values of a call (R241) -/

/-- The number of blocks is a quarter of the number of pixels, rounded up. -/
theorem blockCount_rounds_up (n : BitVec 32) : n.toNat ≤ 4 * blockCount n ∧ 4 * blockCount n < n.toNat + 4 := by
  unfold blockCount
  omega

/-- No pixels make no blocks (R247). -/
theorem blockCount_zero : blockCount 0 = 0 := rfl

/-- A number fits a finite address width when it is below the power of two (log 11). -/
theorem fitsAddr_some {w n : Nat} : fitsAddr (some w) n = true ↔ n < 2 ^ w := decide_eq_true_iff

/-! ### The first check that fails (R261, R263, R264) -/

theorem checkCall_of_short_source {c : Call} {srcLen : Nat} (dstLen : Nat) (h : srcLen < srcNeed c) :
    checkCall c srcLen dstLen = some (.sourceTooShort srcLen (srcNeed c)) :=
  if_pos h

theorem checkCall_of_small_destination {c : Call} {srcLen dstLen : Nat} (hsrc : srcNeed c ≤ srcLen)
    (h : dstLen < dstMin c) : checkCall c srcLen dstLen = some (.destinationTooSmall dstLen (dstMin c)) :=
  (if_neg hsrc.not_gt).trans (if_pos h)

theorem checkCall_of_access_outside {c : Call} {srcLen dstLen : Nat} (hsrc : srcNeed c ≤ srcLen)
    (hmin : dstMin c ≤ dstLen) (h : dstLen < dstNeed c) :
    checkCall c srcLen dstLen = some (.accessOutOfRange dstLen (dstNeed c)) :=
  (if_neg hsrc.not_gt).trans ((if_neg hmin.not_gt).trans (if_pos h))

/-! ### What the start of a call answers -/

/-- A call whose sizes do not both fit the address width is refused (R241). -/
theorem startCall_of_unfit {c : Call} {s : State}
    (h : ¬ (fitsAddr s.params.addrW (srcNeed c) = true ∧ fitsAddr s.params.addrW (dstNeed c) = true)) :
    startCall c s = .refused (.addressWidth (s.params.addrW.getD 0) (srcNeed c) (dstNeed c)) :=
  if_neg fun hfits => h (Bool.and_eq_true_iff.mp hfits)

/-- A call that fits and fails a check ends with that error (R262, R264). -/
theorem startCall_of_error {c : Call} {s : State} {e : CallError} (hsrc : fitsAddr s.params.addrW (srcNeed c) = true)
    (hdst : fitsAddr s.params.addrW (dstNeed c) = true) (hcheck : checkCall c s.src.len s.dst.len = some e) :
    startCall c s = .next (raiseError e s) := by
  simp [startCall, hsrc, hdst, hcheck]

/-- A call without blocks that fits and passes the checks returns at once (R247). -/
theorem startCall_of_no_blocks {c : Call} {s : State} (hsrc : fitsAddr s.params.addrW (srcNeed c) = true)
    (hdst : fitsAddr s.params.addrW (dstNeed c) = true) (hcheck : ChecksPass s c)
    (hblocks : blockCount c.width * blockCount c.height = 0) : startCall c s = .next (returnOk (s.withCall none)) := by
  have hnone : checkCall c s.src.len s.dst.len = none :=
    checkCall_eq_none.mpr ⟨hcheck.source, hcheck.destMin, hcheck.destNeed⟩
  simp [startCall, hsrc, hdst, hnone, hblocks]

/-- Ending a call before its walk has begun writes the call and the status alone. -/
theorem withCall_withWalk_of_no_walk {s : State} (h : s.walk = none) (st : Option Status) :
    (s.withCall none).withWalk none st = { s with call := none, status := st } := by
  rw [← h]
  rfl

/-- The step of a waiting call that fits and fails a check (R262, R264). -/
theorem step_of_error {s : State} {c : Call} {e : CallError} (h : CallWaits s c)
    (hcheck : checkCall c s.src.len s.dst.len = some e) :
    step s = .next { s with call := none, status := some (.error e) } :=
  calc step s = startCall c s := step_of_waiting_call h.requests h.walk h.call
    _ = .next (raiseError e s) := startCall_of_error h.srcFits h.dstFits hcheck
    _ = .next { s with call := none, status := some (.error e) } :=
        congrArg Host.Outcome.next (withCall_withWalk_of_no_walk h.walk _)

/-! ### No fault (R265) -/

theorem serve_not_fault (r : Request) (s : State) (f : Fault) : serve r s ≠ .fault f := by
  intro h
  rcases serve_cases r s with ⟨_, -, he⟩ | ⟨_, -, he⟩ <;> cases he.symm.trans h

theorem startCall_not_fault (c : Call) (s : State) (f : Fault) : startCall c s ≠ .fault f := by
  intro h
  rcases startCall_cases c s with ⟨-, he⟩ | ⟨-, ⟨_, -, he⟩ | ⟨-, -, he⟩ | ⟨-, -, he⟩⟩ <;>
    cases he.symm.trans h

/-- A walk with the invariant reads inside `SRC` and writes inside `DST`. -/
theorem walkStep_not_fault {s : State} {w : Walk} (h : WalkOk s w) (f : Fault) : walkStep w s ≠ .fault f := by
  intro hf
  cases (walkStep_of_walkOk h).symm.trans hf

/-! ### The idle step (R273) -/

/-- Without a request, a running call and a waiting call nothing happens (log 14). -/
theorem step_of_idle {s : State} (hr : s.requests = []) (hw : s.walk = none) (hc : s.call = none) :
    step s = .next s := by
  simp only [step, hr, hw, hc]

/-! ### The turn of the cores in the walk (R250) -/

/-- The cores after a block: the one that served owes no response and stands last, the others are as they were
(log 12). -/
theorem blockWritten_cores (w : Walk) (s : State) :
    (blockWritten w s).core :: (blockWritten w s).otherCores =
      s.otherCores ++ [{ (blockDecoded w s).core with response := none }] := by
  unfold blockWritten
  rw [nextCore_instances]
  rfl

/-! ### What a call leaves above `DST_NEED` (R248) -/

/-- Every byte of a block of the grid, by its number, is below `DST_NEED` (R58). -/
theorem decodedCells_lt_dstNeed {s : State} {c : Call} {k : Nat} (hk : k < blockCount c.width * blockCount c.height) :
    ∀ x ∈ decodedCells s c k, x.1 < dstNeed c := by
  intro x hx
  obtain ⟨i, j, ch, rfl⟩ := mem_blockCells_iff.mp hx
  obtain ⟨hcol, hrow⟩ := grid_coordinates_lt hk
  exact byteAddr_lt_dstNeed hcol hrow i j ch

/-- The blocks of a call leave every byte at or above `DST_NEED` as it was. -/
theorem BlocksDone.read_above {s t : State} {c : Call} {k a : Nat} (hdst : s.dst.wf) (hpass : ChecksPass s c)
    (hk : k ≤ blockCount c.width * blockCount c.height) (hd : BlocksDone s c k t) (ha : dstNeed c ≤ a) :
    t.dst.read a = s.dst.read a := by
  have hbelow : ∀ x ∈ (List.range k).flatMap (decodedCells s c), x.1 < dstNeed c := by
    intro x hx
    obtain ⟨b, hb, hxb⟩ := List.mem_flatMap.mp hx
    exact decodedCells_lt_dstNeed ((List.mem_range.mp hb).trans_le hk) x hxb
  rw [hd.dst]
  exact s.dst.read_storeAll_of_notMem _ a hdst (fun x hx => (hbelow x hx).trans_le hpass.destNeed)
    fun x hx => ((hbelow x hx).trans_le ha).ne

/-! ### A run by its first step -/

/-- What comes after an outcome: the rest from a next state, and nothing after a fault or a refusal. -/
def andThen (o : Host.Outcome State Fault Refusal) (rest : State → Host.Outcome State Fault Refusal) :
    Host.Outcome State Fault Refusal :=
  match o with
  | .next s => rest s
  | .fault f => .fault f
  | .refused x => .refused x

/-- A run is its first step and then the rest. -/
theorem run_succ_eq_andThen (n : Nat) (s : State) :
    Host.Core.run Sys2Proof.core (n + 1) s = andThen (step s) (Host.Core.run Sys2Proof.core n) := by
  have hcore : Sys2Proof.core.step s = step s := rfl
  simp only [Host.Core.run, hcore]
  cases step s <;> rfl

end Machine

/-- Outcomes that are the same stay so when what comes after takes next states that are the same but for the cores to
outcomes that are the same. -/
theorem Claim.SameOutcome.andThen {o o' : Host.Outcome State Fault Refusal}
    {rest rest' : State → Host.Outcome State Fault Refusal} (h : SameOutcome o o')
    (hrest : ∀ t t', SameButCores t t' → SameOutcome (rest t) (rest' t')) :
    SameOutcome (Machine.andThen o rest) (Machine.andThen o' rest') := by
  cases o with
  | next t =>
    obtain ⟨t', rfl, ht⟩ := next_of_sameOutcome h
    exact hrest t t' ht
  | fault f =>
    cases o' with
    | fault f' => exact h
    | next _ | refused _ => exact h.elim
  | refused x =>
    cases o' with
    | refused x' => exact h
    | next _ | fault _ => exact h.elim

/-- Any number of steps of two states that differ at most in the cores and in `P_LATENCY` ends alike. -/
theorem Claim.SameButCores.run (n : Nat) {s s' : State} (h : SameButCores s s') :
    SameOutcome (Host.Core.run Sys2Proof.core n s) (Host.Core.run Sys2Proof.core n s') := by
  induction n generalizing s s' with
  | zero => exact h
  | succ n ih =>
    rw [run_succ_eq_andThen, run_succ_eq_andThen]
    exact h.step.andThen fun _ _ => ih

namespace WalkerFamily

/-- Settles O39, by induction on the number of steps: one step of both keeps them the same but for the cores. -/
theorem coresAndLatencyDoNotShowInARun : Obligations.CoresAndLatencyDoNotShowInARun :=
  fun n _ _ h => h.run n

/-- Settles O50: `run_call` takes the call through all its blocks, after which `BlocksDone` says that it has
returned. -/
theorem callReturnsOkAfterEveryBlock : Obligations.CallReturnsOkAfterEveryBlock := by
  intro s c h hpass
  obtain ⟨t, ht, hdone⟩ := run_call h hpass
  have hend : ¬ blockCount c.width * blockCount c.height < blockCount c.width * blockCount c.height := lt_irrefl _
  exact ⟨t, ht, hdone.status.trans (if_neg hend), hdone.walk.trans (if_neg hend), hdone.call, hdone.requests,
    hdone.params, hdone.src, by rw [hdone.dst, Memory.storeAll_len],
    fun _ ha => hdone.read_above h.dst_wf hpass le_rfl ha⟩

/-- Settles O49: the step is `walkStep_of_walkOk`, and moving on does not touch the cores. -/
theorem coresTakeTurnsInTheWalk : Obligations.CoresTakeTurnsInTheWalk := by
  intro s w h hr hw
  refine ⟨_, _, (step_of_walk hr hw).trans (walkStep_of_walkOk (h.walk_ok w hw)), exec_unitInstr w s, ?_⟩
  rw [advanceWalk_core, advanceWalk_otherCores, blockWritten_cores]

/-- Settles O40: the block counts are rounded up, and the other values are the model's formulas. -/
theorem derivedValuesOfACall : Obligations.DerivedValuesOfACall :=
  fun c => ⟨blockCount_rounds_up c.width, blockCount_rounds_up c.height, rfl, rfl, rfl, fun h => if_pos h,
    fun h => if_neg h⟩

/-- Settles O45: one of the two sizes is not below the power of two. -/
theorem unfitCallIsRefused : Obligations.UnfitCallIsRefused := by
  intro s c w hr hw hc haddr hneed
  have hunfit : ¬ (fitsAddr s.params.addrW (srcNeed c) = true ∧ fitsAddr s.params.addrW (dstNeed c) = true) := by
    rw [haddr, fitsAddr_some, fitsAddr_some]
    omega
  rw [step_of_waiting_call hr hw hc, startCall_of_unfit hunfit, haddr, Option.getD_some]

/-- Settles O46: without columns or rows of pixels there are no blocks, so the call returns in its first step. -/
theorem callWithoutBlocksReturnsOk : Obligations.CallWithoutBlocksReturnsOk := by
  intro s c h hpass hempty
  have hblocks : blockCount c.width * blockCount c.height = 0 := by
    rcases hempty with hwidth | hheight
    · rw [hwidth, blockCount_zero, Nat.zero_mul]
    · rw [hheight, blockCount_zero, Nat.mul_zero]
  calc step s = startCall c s := step_of_waiting_call h.requests h.walk h.call
    _ = .next (returnOk (s.withCall none)) := startCall_of_no_blocks h.srcFits h.dstFits hpass hblocks
    _ = .next { s with call := none, status := some .ok } :=
        congrArg Host.Outcome.next (withCall_withWalk_of_no_walk h.walk _)

end WalkerFamily

namespace ExceptionsFamily

/-- Settles O34: of the four things a step can do, only the walk's could fault, and the invariant keeps it inside both
buffers. -/
theorem invariantStatesNeverFault : Obligations.InvariantStatesNeverFault := by
  intro s h f hf
  rcases step_cases s with ⟨r, rest, -, he⟩ | ⟨w, -, hw, he⟩ | ⟨c, -, -, -, he⟩ | ⟨-, -, -, he⟩
  · exact serve_not_fault r _ f (he.symm.trans hf)
  · exact walkStep_not_fault (h.walk_ok w hw) f (he.symm.trans hf)
  · exact startCall_not_fault c s f (he.symm.trans hf)
  · cases he.symm.trans hf

/-- Settles O44: `step_of_error` with the check that fails first. -/
theorem failedCallReportsTheFirstError : Obligations.FailedCallReportsTheFirstError :=
  fun _ _ h => ⟨fun hsrc => step_of_error h (checkCall_of_short_source _ hsrc),
    fun hsrc hmin => step_of_error h (checkCall_of_small_destination hsrc hmin),
    fun hsrc hmin hneed => step_of_error h (checkCall_of_access_outside hsrc hmin hneed)⟩

end ExceptionsFamily

namespace ResetAndHazardsFamily

/-- Settles O38: nothing is presented and nothing runs or waits. -/
theorem idleStepChangesNothing : Obligations.IdleStepChangesNothing :=
  fun _ => step_of_idle

end ResetAndHazardsFamily

end Sys2Proof
end

section
/-! PROOFS. The family of spec/47_block_ops.md: what `DECRGBA` leaves, by `DECRGB` and the alpha decoder (R231). With
it, from spec/70_reset_and_hazards.md, the range of the clamp's operands with the default tables (R291). -/

namespace Sys2Proof

open Machine Claim

namespace Machine

/-! ### `DECRGBA` by its two parts (R231) -/

/-- A color body neither reads nor writes the alpha block (R22). -/
theorem coreAfter_decodeColor_withAlphaBlock (b : Block) (p : Params) (c : Core) (ab : Block) :
    coreAfter (decodeColor b) p (c.withAlphaBlock ab) = (coreAfter (decodeColor b) p c).withAlphaBlock ab := by
  unfold decodeColor
  cases blockMode b <;> rfl

/-- The color steps of `DECRGBA` leave what `DECRGB` leaves, with their own request and the response not yet
presented. -/
theorem decodeColorBlock_of_decrgba (ab cb : Block) (p : Params) (c : Core) :
    decodeColorBlock p ((c.withRequest 1 cb).withAlphaBlock ab) = { coreAfter (.decrgb cb) p c with
      op := 1, ab := ab, response := (coreAfter (decodeColor cb) p c).response } := by
  rw [decodeColorBlock_eq_selected, Core.withAlphaBlock_cb, Core.withRequest_cb, coreAfter_decodeColor_withAlphaBlock,
    coreAfter_decodeColor_withRequest, coreAfter_decrgb]
  rfl

/-- The registers after `DECRGBA`: those after the alpha decoder run on what `DECRGB` leaves (R231, R288). -/
theorem coreAfter_decrgba (ab cb : Block) (p : Params) (c : Core) :
    coreAfter (.decrgba ab cb) p c = { coreAfter (decodeAlpha ab) p (coreAfter (.decrgb cb) p c) with
      op := 1, ab := ab, response := some (coreAfter (decodeAlpha ab) p (coreAfter (.decrgb cb) p c)).px } := by
  calc coreAfter (.decrgba ab cb) p c
      = (decodeAlphaBlock p (decodeColorBlock p ((c.withRequest 1 cb).withAlphaBlock ab))).respond := rfl
    _ = _ := by rw [decodeColorBlock_of_decrgba]; rfl

/-- The alpha decoder replaces the alpha of a pixel by the value of its index, and keeps the colors (R222). -/
theorem getElem_decodeAlpha_px (ab : Block) (p : Params) (c : Core) (k : Fin 16) :
    (coreAfter (decodeAlpha ab) p c).px[k] = { c.px[k] with a := alphaValue p (alphaFields ab) (blockIdx3 ab)[k] } := by
  rw [decodeAlpha, coreAfter, alphaBody, alphaRender_eq, Fin.getElem_fin, Vector.getElem_ofFn]
  rfl

end Machine

/-! ### The operands of the clamp with the default tables (R291) -/

/-- The entries of the default `AMOD` lie in -15..14 (R122). -/
theorem amod_default_range :
    ∀ (t : BitVec 4) (x : BitVec 3), -15 ≤ amod defaultParams t x ∧ amod defaultParams t x ≤ 14 := by
  decide

/-- The entries of the default `IMOD` lie in -183..183 (R121). -/
theorem imod_default_range :
    ∀ (t : BitVec 3) (x : BitVec 2), -183 ≤ imod defaultParams t x ∧ imod defaultParams t x ≤ 183 := by
  decide

/-- A modifier of the default `AMOD` times a 4-bit multiplier lies in -225..210 (R291). -/
theorem amod_default_product_range (mult t : BitVec 4) (x : BitVec 3) :
    -225 ≤ amod defaultParams t x * nat mult.toNat ∧ amod defaultParams t x * nat mult.toNat ≤ 210 := by
  obtain ⟨hlo, hhi⟩ := amod_default_range t x
  have hmult : 0 ≤ nat mult.toNat ∧ nat mult.toNat ≤ 15 := by
    have := mult.isLt
    unfold nat
    omega
  have hmin := mul_le_mul_of_nonneg_right hlo hmult.1
  have hmax := mul_le_mul_of_nonneg_right hhi hmult.1
  omega

namespace BlockOpsFamily

/-- Settles O26: the registers are `coreAfter_decrgba`, and the alpha decoder gives a pixel the same alpha whatever
colors stand there. -/
theorem decrgbaJoinsColorAndAlpha : Obligations.DecrgbaJoinsColorAndAlpha := by
  intro ab cb s
  refine ⟨_, _, _, _, exec_eq _ s, exec_eq _ s, exec_eq _ s, exec_eq _ _, outsideCoreUnchanged_withCore s _,
    fun k => ?_, ?_⟩
  · simp only [State.withCore_core]
    rw [coreAfter_decrgba, getElem_decodeAlpha_px, getElem_decodeAlpha_px]
  · simp only [State.withCore_core, State.withCore_params]
    rw [coreAfter_decrgba]

end BlockOpsFamily

namespace ResetAndHazardsFamily

/-- Settles O11: the base is a byte, and the modifier's range is that of the default table's entries. -/
theorem defaultTableOperandsStayInRange : Obligations.DefaultTableOperandsStayInRange := by
  have hbyte (b : Byte) : 0 ≤ nat b.toNat ∧ nat b.toNat ≤ 255 := by
    have := b.isLt
    unfold nat
    omega
  refine ⟨fun base mult t x => ?_, fun base t x => ?_⟩
  · have hbase := hbyte base
    have hproduct := amod_default_product_range mult t x
    omega
  · have hbase := hbyte base
    have hentry := imod_default_range t x
    omega

end ResetAndHazardsFamily

end Sys2Proof
end
